-- ==== Sys2Proof/Word.lean ====
section
/-! DEFINITION. The number types of CCTH: bytes, HOST words and HOST addresses (00_scope.md R8, 20_memory.md R70). -/

namespace Sys2Proof

/-- A byte, an integer 0..255 (R8). -/
abbrev Byte := BitVec 8

/-- One HOST location's value, `HOST_DW` = 16 bits (R70). -/
abbrev Word := BitVec 16

/-- A HOST address, `HOST_AW` = 11 bits (R70). -/
abbrev HostAddr := BitVec 11

/-- `sum(s)`, the integer sum of the elements of a byte sequence, 0 for `[]` (R9). -/
def sumBytes : List Byte → Nat
  | [] => 0
  | b :: bs => b.toNat + sumBytes bs

end Sys2Proof
end

