-- ==== Sys2Proof/Syntax.lean ====
section
/-! DEFINITION. The twelve commands of CCTH (30_encoding.md R102) and the fields of a command word (R100). -/

namespace Sys2Proof

/-- The input of a decoder command, bit S of its word (R103): `ibuf` is S = 0, `obuf` is S = 1. -/
inductive Source where
  | ibuf
  | obuf
  deriving DecidableEq, Repr

/-- The commands, one constructor per row of `spec/opcode_table.json` (R102). -/
inductive Instr where
  /-- CRCGEN (R123). -/
  | crcgen
  /-- CRCCHK (R124). -/
  | crcchk
  /-- SUMGEN (R126). -/
  | sumgen
  /-- SUMCHK (R127). -/
  | sumchk
  /-- SEAL (R144). -/
  | sealCmd
  /-- UNSEAL (R150). -/
  | unsealCmd
  /-- OPEN (R161). -/
  | openCmd
  /-- XCHG (R171). -/
  | xchg
  /-- DECBILL (R196). -/
  | decbill (src : Source)
  /-- DECCOIN (R197). -/
  | deccoin (src : Source)
  /-- DECODE (R198). -/
  | decode (src : Source)
  /-- SCAN (R222). -/
  | scan
  deriving DecidableEq, Repr

/-- The three fields every 16-bit word written to CMD has (R100), whether or not it is a command. -/
structure CommandFields where
  /-- RSV, bits 15:9. -/
  rsv : BitVec 7
  /-- S, bit 8. -/
  s : Bool
  /-- OPC, bits 7:0. -/
  opc : Byte
  deriving DecidableEq, Repr

end Sys2Proof
end

