-- ==== Sys2Proof/WellFormed.lean ====
section
/-! DEFINITION. Which fields make a command word legal (30_encoding.md R100 to R102, R104). An `Instr` is well formed when the
fields R102 gives it pass the same three checks; every `Instr` does, because its only operand is the two-valued `Source`. -/

namespace Sys2Proof

/-- Check 1 of R101: the reserved field is 0. -/
def CommandFields.rsvZero (f : CommandFields) : Bool := f.rsv == 0#7

/-- The opcodes of R102 whose row says "S: no". -/
def opcodesWithoutSource : List Byte := [0x10#8, 0x11#8, 0x12#8, 0x13#8, 0x20#8, 0x21#8, 0x30#8, 0x31#8, 0x50#8]

/-- The opcodes of R102 whose row says "S: yes". -/
def opcodesWithSource : List Byte := [0x40#8, 0x41#8, 0x42#8]

/-- Check 2 of R101: the opcode is listed in R102. -/
def CommandFields.opcListed (f : CommandFields) : Bool :=
  opcodesWithoutSource.contains f.opc || opcodesWithSource.contains f.opc

/-- Check 3 of R101: S is 0 unless the opcode's row takes S. -/
def CommandFields.sAllowed (f : CommandFields) : Bool := !f.s || opcodesWithSource.contains f.opc

/-- The fields are those of a command. -/
def CommandFields.wf (f : CommandFields) : Bool := f.rsvZero && f.opcListed && f.sAllowed

/-- Bit S for an input selection (R103). -/
def Source.bit : Source → Bool
  | .ibuf => false
  | .obuf => true

/-- OPC of each command (R102). -/
def Instr.opc : Instr → Byte
  | .crcgen => 0x10#8
  | .crcchk => 0x11#8
  | .sumgen => 0x12#8
  | .sumchk => 0x13#8
  | .sealCmd => 0x20#8
  | .unsealCmd => 0x21#8
  | .openCmd => 0x30#8
  | .xchg => 0x31#8
  | .decbill _ => 0x40#8
  | .deccoin _ => 0x41#8
  | .decode _ => 0x42#8
  | .scan => 0x50#8

/-- Bit S of each command: the input selection of a decoder command, 0 in every other (R100). -/
def Instr.sBit : Instr → Bool
  | .decbill src => src.bit
  | .deccoin src => src.bit
  | .decode src => src.bit
  | .crcgen => false
  | .crcchk => false
  | .sumgen => false
  | .sumchk => false
  | .sealCmd => false
  | .unsealCmd => false
  | .openCmd => false
  | .xchg => false
  | .scan => false

/-- The fields of a command's word. -/
def Instr.fields (i : Instr) : CommandFields := { rsv := 0#7, s := i.sBit, opc := i.opc }

/-- A command is well formed when its fields are. -/
def Instr.wf (i : Instr) : Bool := i.fields.wf

end Sys2Proof
end

