-- ==== Sys2Proof/Decode.lean ====
section
/-! DEFINITION. The decoder (30_encoding.md R101), total on the 65536 words and rejecting by name, and the encoder (R100, R102). -/

namespace Sys2Proof

/-- Why a word written to CMD is illegal (R101), in the order the tests are made. -/
inductive DecodeError where
  /-- `w[15:9] != 0`. -/
  | reservedBits
  /-- `w[7:0]` is not listed in R102. -/
  | unassignedOpcode
  /-- `w[8] = 1` on a command whose row says "S: no". -/
  | sourceNotAllowed
  deriving DecidableEq, Repr

/-- The fields of a word (R100). -/
def fieldsOf (w : Word) : CommandFields :=
  { rsv := w.extractLsb' 9 7, s := w.getLsbD 8, opc := w.extractLsb' 0 8 }

/-- The input selection a bit S stands for (R103). -/
def sourceOf (s : Bool) : Source := if s then .obuf else .ibuf

/-- A command whose row says "S: no" is legal only with S = 0 (R101). -/
def withoutSource (s : Bool) (i : Instr) : Except DecodeError Instr :=
  if s then .error .sourceNotAllowed else .ok i

/-- Look the opcode up in R102; the number is OPC. -/
def decodeOpcode (opc : Nat) (s : Bool) : Except DecodeError Instr :=
  match opc with
  | 0x10 => withoutSource s .crcgen
  | 0x11 => withoutSource s .crcchk
  | 0x12 => withoutSource s .sumgen
  | 0x13 => withoutSource s .sumchk
  | 0x20 => withoutSource s .sealCmd
  | 0x21 => withoutSource s .unsealCmd
  | 0x30 => withoutSource s .openCmd
  | 0x31 => withoutSource s .xchg
  | 0x40 => .ok (.decbill (sourceOf s))
  | 0x41 => .ok (.deccoin (sourceOf s))
  | 0x42 => .ok (.decode (sourceOf s))
  | 0x50 => withoutSource s .scan
  | _ => .error .unassignedOpcode

/-- Decode the word written to CMD (R101). -/
def decode (w : Word) : Except DecodeError Instr :=
  let f := fieldsOf w
  if f.rsv = 0#7 then decodeOpcode f.opc.toNat f.s else .error .reservedBits

/-- The word of a command (R100, R102). -/
def encode (i : Instr) : Word := i.fields.rsv ++ BitVec.ofBool i.fields.s ++ i.fields.opc

/-- The host's view of `decode`: a command is one 16-bit word, so a longer bit string that does not fit in it is none. -/
def decodeTableWord (nbits w : Nat) : Option Instr :=
  if w % 2 ^ nbits < 2 ^ 16 then
    match decode (BitVec.ofNat 16 (w % 2 ^ nbits)) with
    | .ok i => some i
    | .error _ => none
  else none

end Sys2Proof
end

