-- ==== Sys2Proof/Config.lean ====
section
/-! DEFINITION. The OPEN parameters of 00_scope.md R7 and the free values of 93_implementation_defined.md part 2, as constants
with no body: nothing can be proved about which value one of them has, so a theorem holds for every value (U11, U1 to U6). -/

namespace Sys2Proof

/-- The four categories an event CODE can fall into (44_event_decoders.md R194, R195). -/
inductive CodeCategory where
  | status
  | reject
  | fatalError
  | fraudAttempt
  deriving DecidableEq, Repr, Inhabited

/-- `SIMPLE_POLL_HDR`, OPEN (R7, R221). -/
opaque Config.simplePollHdr : Byte

/-- `MANUF_ID_HDR`, OPEN (R7, R221). -/
opaque Config.manufIdHdr : Byte

/-- `COIN_CAT`, OPEN: a total function from code to one of the four categories (R7, R195). -/
opaque Config.coinCat : Byte → CodeCategory

/-- `BILL_DESC` on every code but 0, OPEN (R7, R199): the source fixes only `BILL_DESC(0)`. -/
opaque Config.billDescOther : Byte → String

/-- `COIN_DESC`, OPEN (R7, R199). -/
opaque Config.coinDesc : Byte → String

/-- The wording of a bill credit's description from its bill type and the source's routing words, which R199 leaves open. -/
opaque Config.billCreditText : Byte → String → String

/-- The wording of a coin credit's description from its coin type and sorter path, which R199 leaves open. -/
opaque Config.coinCreditText : Byte → Byte → String

/-- Free value: an unspecified 16-bit value the Host reads (U2, U3), one per draw. -/
opaque Config.freeWord : Nat → Word

/-- Free value: an unspecified byte (U1, U4), one per draw. -/
opaque Config.freeByte : Nat → Byte

/-- Free value: what the Peer answers to a `SerRead` for which the state lists no answer (U6), one per draw. -/
opaque Config.freeSerRead : Nat → List Byte

end Sys2Proof
end

