-- ==== Sys2Proof/Machine/State.lean ====
section
/-! DEFINITION. The state of CCTH (10_state.md R20 to R50) as plain data, the outside world's pending data beside it, and reset. -/

namespace Sys2Proof.Machine

/-- No command of CCTH stops the block with a fault: "CCTH never traps and never hangs by its own rules" (00_scope.md R17), and
every SER transaction returns (20_memory.md R89), so the type has no constructor. -/
inductive Fault where
  deriving DecidableEq, Repr

/-- Why a command has no meaning in this model. -/
inductive Refusal where
  /-- Raised by a refused arm of `exec` only; safe, since the machine stops. -/
  | notModelled (mnemonic : String)
  deriving DecidableEq, Repr

/-- The IntegrityMode of a session or a frame (R32); the codes 0 and 3 of MODE are no mode. -/
inductive IntegrityMode where
  | crc16
  | sum8
  deriving DecidableEq, Repr

/-- SESS (R48), its two architectural values. -/
inductive Sess where
  | closed
  | idle
  deriving DecidableEq, Repr

/-- The result codes of `STATUS.RC` (R28, 60_exceptions.md R240); the codes 10 to 15 are never produced. -/
inductive ResultCode where
  | ok
  | noResponse
  | integrityMismatch
  | malformed
  | configError
  | illegalCmd
  | notOpen
  | lengthError
  | cancelled
  | notEvent
  deriving DecidableEq, Repr

/-- The category of an event record, field CAT (44_event_decoders.md R191); the codes 6 and 7 are never produced. -/
inductive Category where
  | none
  | credit
  | status
  | reject
  | fatalError
  | fraudAttempt
  deriving DecidableEq, Repr

/-- The routing of a bill credit, field ROUTE (R192). -/
inductive Route where
  | na
  | cashbox
  | escrow
  | unknown
  deriving DecidableEq, Repr

/-- EVKIND (R46): which decoder last wrote EVT; the code 3 never occurs. -/
inductive EventKind where
  | none
  | bill
  | coin
  deriving DecidableEq, Repr

/-- One record of EVT (R45) but for IDX, which is hardwired to the record's number. -/
structure EventRecord where
  cat : Category
  ra : Byte
  rb : Byte
  route : Route
  deriving DecidableEq, Repr

/-- One entry of DEVTAB (R47). -/
structure Device where
  address : Byte
  mode : IntegrityMode
  name : List Byte
  deriving DecidableEq, Repr

/-- One SER transaction CCTH made (20_memory.md R86). -/
inductive SerOp where
  | flush
  | write (bytes : List Byte)
  | read (n : Nat) (timeout : Word)
  deriving DecidableEq, Repr

/-- The serial side as CCTH meets it: what the Peer will answer to the coming `SerRead`s, oldest first (any byte sequences at
all, R88), the transactions made so far, oldest first (R177), and the count of answers drawn as free values (U6). -/
structure SerLine where
  answers : List (List Byte)
  trace : List SerOp
  draws : Nat
  deriving DecidableEq, Repr

/-- What the outside world does to the block at one step: nothing (a running SCAN then advances), one access of the HOST space
(R70), reset between steps, or reset in the middle of what the block is doing, after `cut` of its SER transactions (R270, U12):
the probe of a running SCAN, else the command `w` just written to CMD. -/
inductive HostEvent where
  | pause
  | read (a : HostAddr)
  | write (a : HostAddr) (v : Word)
  | reset
  | resetDuring (w : Word) (cut : Nat)
  deriving DecidableEq, Repr

/-- A byte buffer as (index, byte) pairs with the index strictly rising. An index that is not listed holds an unspecified value
(R43, R44, U1): it has no value here, and what reads it draws a free value. -/
abbrev Memory := List Host.Cell

structure State where
  /-- STATUS.BUSY (R24). -/
  busy : Bool
  /-- STATUS.V (R26). -/
  v : Bool
  /-- STATUS.W (R27). -/
  w : Bool
  /-- STATUS.RC (R28). -/
  rc : ResultCode
  /-- SESS (R48); STATUS.OPENED (R25) is its view. -/
  sess : Sess
  /-- CTRL, bit 0 CANCEL (R29). -/
  cancel : Bool
  /-- ADDR (R31). -/
  addr : Byte
  /-- MODE (R32). -/
  mode : BitVec 2
  /-- TMO (R33). -/
  tmo : Word
  /-- SCANTMO (R34). -/
  scantmo : Word
  /-- HDR (R35). -/
  hdr : Byte
  /-- ILEN (R36). -/
  ilen : BitVec 9
  /-- ARG (R37). -/
  arg : Word
  /-- RES (R38). -/
  res : Word
  /-- OLEN (R39). -/
  olen : BitVec 9
  /-- RHDR (R40). -/
  rhdr : Byte
  /-- RADDR (R40). -/
  raddr : Byte
  /-- ECNT (R41). -/
  ecnt : BitVec 9
  /-- EVCNT (R46). -/
  evcnt : Byte
  /-- EVKIND (R46). -/
  evkind : EventKind
  /-- SADDR (R42). -/
  saddr : Byte
  /-- SMODE (R42). -/
  smode : BitVec 2
  /-- STMO (R42). -/
  stmo : Word
  /-- DEVN (R47). -/
  devn : BitVec 10
  /-- DEVSEL (R47). -/
  devsel : BitVec 10
  /-- SCANPOS (R47). -/
  scanpos : BitVec 10
  /-- SAVE_ADDR (R49), hidden. -/
  saveAddr : Byte
  /-- SAVE_MODE (R49), hidden. -/
  saveMode : BitVec 2
  /-- SAVE_TMO (R49), hidden. -/
  saveTmo : Word
  /-- IBUF (R43). -/
  ibuf : Memory
  /-- OBUF (R44). -/
  obuf : Memory
  /-- EVT (R45), record k at position k - 1. -/
  evt : Vector EventRecord 5
  /-- DEVTAB (R47), in order of discovery. -/
  devtab : List Device
  /-- The SER port's other side, not CCTH state (R49 b). -/
  ser : SerLine
  /-- The model's own: what the outside world will do, oldest first. -/
  host : List HostEvent
  /-- The model's own: what the last `HostRead` returned. -/
  rdata : Word
  /-- The model's own: how many free values have been drawn (U1 to U4). -/
  draws : Nat
  deriving DecidableEq, Repr

/-- An event record as reset leaves it (R45). -/
def EventRecord.cleared : EventRecord := { cat := .none, ra := 0#8, rb := 0#8, route := .na }

/-- The state after reset (R50, R270). The hidden SAVE registers, which R50 leaves unspecified, are 0 (log entry 5); the outside
world has nothing pending (log entries 1 to 4). -/
def State.reset : State where
  busy := false
  v := false
  w := false
  rc := .ok
  sess := .closed
  cancel := false
  addr := 0#8
  mode := 0#2
  tmo := 0#16
  scantmo := 0#16
  hdr := 0#8
  ilen := 0#9
  arg := 0#16
  res := 0#16
  olen := 0#9
  rhdr := 0#8
  raddr := 0#8
  ecnt := 0#9
  evcnt := 0#8
  evkind := .none
  saddr := 0#8
  smode := 0#2
  stmo := 0#16
  devn := 0#10
  devsel := 0#10
  scanpos := 0#10
  saveAddr := 0#8
  saveMode := 0#2
  saveTmo := 0#16
  ibuf := []
  obuf := []
  evt := #v[.cleared, .cleared, .cleared, .cleared, .cleared]
  devtab := []
  ser := { answers := [], trace := [], draws := 0 }
  host := []
  rdata := 0#16
  draws := 0

end Sys2Proof.Machine
end

