-- ==== Sys2Proof/Machine/Ops.lean ====
section
/-! DEFINITION. The shared operations: the byte buffers (20_memory.md R90), the end of a command (60_exceptions.md R247, which is
what this hardware has in place of taking an exception), the codes of the enumerations, and reset (70_reset_and_hazards.md R270). -/

namespace Sys2Proof.Machine

/-- `BUF_CAP` (00_scope.md R7). -/
def bufCap : Nat := 260

/-- `MAX_PAYLOAD` (R7). -/
def maxPayload : Nat := 255

/-- `DEV_CAP` (R7), also the number of probes of a sweep (45_scanner.md R220). -/
def devCap : Nat := 510

/-! Buffers -/

/-- The byte an index holds, none where it is unspecified. -/
def Memory.get? (m : Memory) (i : Nat) : Option Byte :=
  match m with
  | [] => none
  | (j, b) :: rest => if j = i then some b else Memory.get? rest i

/-- Store one byte, keeping the indices strictly rising. -/
def Memory.set (m : Memory) (i : Nat) (b : Byte) : Memory :=
  match m with
  | [] => [(i, b)]
  | (j, c) :: rest =>
    if i < j then (i, b) :: (j, c) :: rest
    else if i = j then (i, b) :: rest
    else (j, c) :: Memory.set rest i b

/-- Every listed index is above `lo`-1, they strictly rise, and all are below `BUF_CAP`. -/
def Memory.wfFrom (lo : Nat) (m : Memory) : Bool :=
  match m with
  | [] => true
  | (j, _) :: rest => decide (lo ≤ j) && decide (j < bufCap) && Memory.wfFrom (j + 1) rest

/-- The canonical form: indices strictly rising and inside the buffer. -/
def Memory.wf (m : Memory) : Bool := Memory.wfFrom 0 m

/-- The buffer that holds a byte sequence at `k`, `k + 1`, … and nothing else. -/
def Memory.ofBytesFrom (k : Nat) : List Byte → Memory
  | [] => []
  | b :: bs => (k, b) :: Memory.ofBytesFrom (k + 1) bs

/-- `MemWrite(SPACE, 0, len(s), s)` into a buffer whose other indices become unspecified (R44). -/
def Memory.ofBytes (s : List Byte) : Memory := Memory.ofBytesFrom 0 s

/-- `n` bytes from index `i`; an index with no value gives the free byte of its draw, `d` counting on from the first (U1). -/
def Memory.bytesFrom (m : Memory) (d i : Nat) : Nat → List Byte
  | 0 => []
  | n + 1 => (Memory.get? m i).getD (Config.freeByte d) :: Memory.bytesFrom m (d + 1) (i + 1) n

/-- `MemRead(SPACE, 0, n)` (R10), the free bytes drawn from draw `d` on. -/
def Memory.bytes (m : Memory) (d n : Nat) : List Byte := Memory.bytesFrom m d 0 n

/-! The end of a command -/

/-- A command completes with a result code: RC is written and BUSY cleared (R24, R28, R247). `raise` of R10 is this too. -/
def complete (rc : ResultCode) (s : State) : State := { s with rc := rc, busy := false }

/-- `n` free values have been drawn at acceptance (U1). -/
def drawn (n : Nat) (s : State) : State := { s with draws := s.draws + n }

/-- `MemWrite(OBUF, 0, len(s), s)` then `x[OLEN] <- len(s)` (R90). -/
def putOutput (bytes : List Byte) (s : State) : State :=
  { s with obuf := Memory.ofBytes bytes, olen := BitVec.ofNat 9 bytes.length }

/-- An illegal word "executes as follows: STATUS.RC <- ILLEGAL_CMD; nothing else changes" (30_encoding.md R104). -/
def illegalCommand (s : State) : State := complete .illegalCmd s

/-! Codes -/

/-- The code of an integrity mode in MODE, SMODE and DEVMODE (R32). -/
def IntegrityMode.code : IntegrityMode → BitVec 2
  | .crc16 => 1#2
  | .sum8 => 2#2

/-- The code of a result in `STATUS.RC` (R28). -/
def ResultCode.code : ResultCode → BitVec 4
  | .ok => 0#4
  | .noResponse => 1#4
  | .integrityMismatch => 2#4
  | .malformed => 3#4
  | .configError => 4#4
  | .illegalCmd => 5#4
  | .notOpen => 6#4
  | .lengthError => 7#4
  | .cancelled => 8#4
  | .notEvent => 9#4

/-- The code of a category in CAT (R191). -/
def Category.code : Category → BitVec 3
  | .none => 0#3
  | .credit => 1#3
  | .status => 2#3
  | .reject => 3#3
  | .fatalError => 4#3
  | .fraudAttempt => 5#3

/-- The code of a routing in ROUTE (R192). -/
def Route.code : Route → BitVec 2
  | .na => 0#2
  | .cashbox => 1#2
  | .escrow => 2#2
  | .unknown => 3#2

/-- The code of a decoder in EVKIND (R46). -/
def EventKind.code : EventKind → BitVec 2
  | .none => 0#2
  | .bill => 1#2
  | .coin => 2#2

/-! Reset -/

/-- Reset at a step boundary: CCTH goes to its reset state and the outside world keeps what it has pending (R270: "Reset does
not act on the serial collaborator"). -/
def resetBlock (s : State) : State :=
  { State.reset with ser := s.ser, host := s.host, rdata := s.rdata, draws := s.draws }

/-- How many of some SER transactions are reads. -/
def readCount : List SerOp → Nat
  | [] => 0
  | .read _ _ :: ops => readCount ops + 1
  | _ :: ops => readCount ops

/-- Reset in the middle of what would have led from `s` to `t`: of the SER transactions made on the way only the first `cut` were
made, their reads have taken their answers, and nothing else of the work remains (R270, U12). -/
def abandon (s t : State) (cut : Nat) : State :=
  let made := (t.ser.trace.drop s.ser.trace.length).take cut
  resetBlock { s with
    ser := { answers := s.ser.answers.drop (readCount made), trace := s.ser.trace ++ made, draws := t.ser.draws }
    draws := t.draws }

end Sys2Proof.Machine
end

