-- ==== Sys2Proof/Machine/Operands.lean ====
section
/-! DEFINITION. The operand forms of the commands: the input sequences (20_memory.md R90, 30_encoding.md R103), the integrity mode
a MODE value selects (10_state.md R32), and the length limits (60_exceptions.md R244). -/

namespace Sys2Proof.Machine

/-- `MemRead(IBUF, 0, x[ILEN])`. -/
def ibufInput (s : State) : List Byte := Memory.bytes s.ibuf s.draws s.ilen.toNat

/-- `MemRead(OBUF, 0, x[OLEN])`. -/
def obufInput (s : State) : List Byte := Memory.bytes s.obuf s.draws s.olen.toNat

/-- The length register of an input selection (R103). -/
def sourceLength (src : Source) (s : State) : Nat :=
  match src with
  | .ibuf => s.ilen.toNat
  | .obuf => s.olen.toNat

/-- The input sequence of a decoder command (R103). -/
def sourceInput (src : Source) (s : State) : List Byte :=
  match src with
  | .ibuf => ibufInput s
  | .obuf => obufInput s

/-- `x[ILEN]` is outside a command's legal range (R244). -/
def lengthBad (limit : Nat) (s : State) : Bool := decide (limit < s.ilen.toNat)

/-- A decoder command's input length is outside its legal range: only with S = 0 and ILEN > 260 (R244). -/
def sourceLengthBad (src : Source) (s : State) : Bool :=
  match src with
  | .ibuf => lengthBad bufCap s
  | .obuf => false

/-- The mode a MODE value selects; 0 (NONE) and 3 (reserved) are invalid (R32). -/
def modeOf (m : BitVec 2) : Option IntegrityMode :=
  if m = 1#2 then some .crc16 else if m = 2#2 then some .sum8 else none

/-- `CRC16 if x[SMODE] = 1 else SUM8` (R171). -/
def sessionMode (s : State) : IntegrityMode := if s.smode = 1#2 then .crc16 else .sum8

end Sys2Proof.Machine
end

