-- ==== Sys2Proof/Machine/Events.lean ====
section
/-! DEFINITION. The Event Decoders (44_event_decoders.md): DECBILL, DECCOIN, DECODE, and the description text of R199. -/

namespace Sys2Proof.Machine

/-- `BILL_EVENT_HDR` (00_scope.md R7). -/
def billEventHdr : Byte := 159#8

/-- `COIN_EVENT_HDR` (R7). -/
def coinEventHdr : Byte := 229#8

/-- The counter of `pairs(q)`: 0 when missing (R190). -/
def eventCounter (q : List Byte) : Byte :=
  match q with
  | [] => 0#8
  | c :: _ => c

/-- Pair k of `pairs(q)`, k = 1..5: present only when both of its bytes are (R190). -/
def eventPair (q : List Byte) (k : Nat) : Byte × Byte :=
  match q.drop (2 * k - 1) with
  | a :: b :: _ => (a, b)
  | _ => (0#8, 0#8)

/-- A code's category as a field CAT. -/
def codeCategory : CodeCategory → Category
  | .status => .status
  | .reject => .reject
  | .fatalError => .fatalError
  | .fraudAttempt => .fraudAttempt

/-- The bill partition `BILL_CAT` (R194). -/
def billCat (code : Byte) : CodeCategory :=
  if [0, 1, 4, 5, 10, 11, 12, 14, 20, 21].contains code.toNat then .status
  else if [2, 3].contains code.toNat then .reject
  else if [6, 7, 13, 15, 16, 19].contains code.toNat then .fatalError
  else .fraudAttempt

/-- `classify_bill(A, B)` (R193). -/
def classifyBill (a b : Byte) : Category × Route :=
  if a = 0#8 then (codeCategory (billCat b), .na)
  else (.credit, if b = 0#8 then .cashbox else if b = 1#8 then .escrow else .unknown)

/-- `classify_coin(A, B)` (R195). -/
def classifyCoin (a b : Byte) : Category × Route :=
  if a = 0#8 then (codeCategory (Config.coinCat b), .na) else (.credit, .na)

/-- Record k of a batch: the classification of pair k and the pair (R196, R197). -/
def eventRecord (classify : Byte → Byte → Category × Route) (q : List Byte) (k : Nat) : EventRecord :=
  let ab := eventPair q k
  { cat := (classify ab.1 ab.2).1, ra := ab.1, rb := ab.2, route := (classify ab.1 ab.2).2 }

/-- The five records of a batch (R45: "always exactly 5"). -/
def eventBatch (classify : Byte → Byte → Category × Route) (q : List Byte) : Vector EventRecord 5 :=
  #v[eventRecord classify q 1, eventRecord classify q 2, eventRecord classify q 3, eventRecord classify q 4,
    eventRecord classify q 5]

/-- What DECBILL and DECCOIN share: the length test, then EVCNT, EVKIND and EVT (R196, R197). -/
def decodeEvents (kind : EventKind) (classify : Byte → Byte → Category × Route) (src : Source) (s : State) : State :=
  if sourceLengthBad src s then complete .lengthError s
  else
    let q := sourceInput src s
    complete .ok { drawn (sourceLength src s) s with
      evcnt := eventCounter q, evkind := kind, evt := eventBatch classify q }

/-- DECBILL (R196). -/
def execDecbill (src : Source) (s : State) : Host.Outcome State Fault Refusal :=
  .next (decodeEvents .bill classifyBill src s)

/-- DECCOIN (R197). -/
def execDeccoin (src : Source) (s : State) : Host.Outcome State Fault Refusal :=
  .next (decodeEvents .coin classifyCoin src s)

/-- DECODE (R198): HDR selects, never RHDR, and the header test comes before the length test. -/
def execDecode (src : Source) (s : State) : Host.Outcome State Fault Refusal :=
  if s.hdr = billEventHdr then .next (decodeEvents .bill classifyBill src s)
  else if s.hdr = coinEventHdr then .next (decodeEvents .coin classifyCoin src s)
  else .next (complete .notEvent s)

/-! The description text, a function of the stored fields (R199); it is no state and nothing reads it. -/

/-- The source's string of a category (R191); NONE has none. -/
def Category.text : Category → String
  | .none => ""
  | .credit => "Credit"
  | .status => "Status"
  | .reject => "Reject"
  | .fatalError => "Fatal Error"
  | .fraudAttempt => "Fraud Attempt"

/-- The source's words for a routing (R192); NA has none. -/
def Route.text : Route → String
  | .na => ""
  | .cashbox => "sent to cashbox"
  | .escrow => "held in escrow"
  | .unknown => "Unknown"

/-- `BILL_DESC`, with the one entry the source fixes (R7, R199). -/
def billDesc (code : Byte) : String := if code = 0#8 then "Master inhibit active" else Config.billDescOther code

/-- `describe(EVKIND, record)` (R199); no decoder has written a record while EVKIND is NONE. -/
def describe (kind : EventKind) (r : EventRecord) : String :=
  match kind with
  | .none => ""
  | .bill => if r.cat = .credit then Config.billCreditText r.ra r.route.text else billDesc r.rb
  | .coin => if r.cat = .credit then Config.coinCreditText r.ra r.rb else Config.coinDesc r.rb

/-- The composition the source shows: "category name, colon, space, description" (R199). -/
def eventText (kind : EventKind) (r : EventRecord) : String := r.cat.text ++ ": " ++ describe kind r

end Sys2Proof.Machine
end

