-- ==== Sys2Proof/Machine/Flags.lean ====
section
/-! DEFINITION. The STATUS register (10_state.md R23 to R28) as the Host reads it, and the result code a verdict gives. -/

namespace Sys2Proof.Machine

/-- STATUS.OPENED, "1 exactly when SESS = IDLE" (R25). -/
def opened (s : State) : Bool := decide (s.sess = .idle)

/-- STATUS while BUSY = 0 (R23): bits 15:8 read 0, then RC, W, V, OPENED, BUSY. -/
def statusWord (s : State) : Word :=
  0#8 ++ s.rc.code ++ BitVec.ofBool s.w ++ BitVec.ofBool s.v ++ BitVec.ofBool (opened s) ++ BitVec.ofBool s.busy

/-- STATUS while BUSY = 1: OPENED as it is, RC, W and V unspecified, here the bits of `free` (20_memory.md R80); bits 15:8 read 0, as
R23 is read (log entry 6, DEDUCED). -/
def busyStatusWord (free : Word) (s : State) : Word :=
  0#8 ++ free.extractLsb' 2 6 ++ BitVec.ofBool (opened s) ++ BitVec.ofBool true

/-- "OK if STATUS.V = 1 else INTEGRITY_MISMATCH" (R124, R127, R150, R171). -/
def verdictCode (valid : Bool) : ResultCode := if valid then .ok else .integrityMismatch

end Sys2Proof.Machine
end

