-- ==== Sys2Proof/Machine/Frame.lean ====
section
/-! DEFINITION. The Frame Builder and Parser (42_frame_codec.md): `sealFrame`, `unsealFrame`, and the commands SEAL and UNSEAL. -/

namespace Sys2Proof.Machine

/-- `SOURCE_BYTE` (00_scope.md R7). -/
def sourceByte : Byte := 1#8

/-- `remove_at(s, i)` (R9). -/
def removeAt (s : List Byte) (i : Nat) : List Byte := s.take i ++ s.drop (i + 1)

/-- `insert_at(s, i, b)`, which overwrites nothing (R9). -/
def insertAt (s : List Byte) (i : Nat) (b : Byte) : List Byte := s.take i ++ [b] ++ s.drop i

/-- `base(a, h, p)` (R140). -/
def baseFrame (a h : Byte) (p : List Byte) : List Byte := [a, BitVec.ofNat 8 p.length, h] ++ p

/-- `seal(m, a, h, p)`: R141 for CRC16, R143 for SUM8. -/
def sealFrame (m : IntegrityMode) (a h : Byte) (p : List Byte) : List Byte :=
  match m with
  | .crc16 =>
    let c := crc16 (baseFrame a h p)
    insertAt (baseFrame a h p) 2 (crcLsb c) ++ [crcMsb c]
  | .sum8 =>
    let f := insertAt (baseFrame a h p) 2 sourceByte
    f ++ [checksum8 f]

/-- What `unseal` returns (R147, R148). -/
structure Unsealed where
  stripped : List Byte
  valid : Bool
  malformed : Bool
  deriving DecidableEq, Repr

/-- A frame shorter than its mode's minimum: nothing is popped (R147, R148). -/
def Unsealed.tooShort (r : List Byte) : Unsealed := { stripped := r, valid := false, malformed := true }

/-- `unseal(CRC16, r)` on at least 5 bytes (R147). -/
def unsealCrc (r : List Byte) : Unsealed :=
  let rem := removeAt r.dropLast 2
  let c := crc16 rem
  { stripped := rem
    valid := decide (some (crcMsb c) = r.getLast?) && decide (some (crcLsb c) = r[2]?)
    malformed := false }

/-- `unseal(SUM8, r)` on at least 2 bytes (R148): the checksum is verified before the source byte is dropped. -/
def unsealSum (r : List Byte) : Unsealed :=
  let rem := r.dropLast
  { stripped := if 3 ≤ rem.length then removeAt rem 2 else rem
    valid := match r.getLast? with
      | some received => checksumValid rem received
      | none => false
    malformed := false }

/-- `unseal(m, r)`, on any byte sequence (R146 to R148). -/
def unsealFrame (m : IntegrityMode) (r : List Byte) : Unsealed :=
  match m with
  | .crc16 => if r.length < 5 then .tooShort r else unsealCrc r
  | .sum8 => if r.length < 2 then .tooShort r else unsealSum r

/-- "MALFORMED if malformed else (OK if valid else INTEGRITY_MISMATCH)" (R150). -/
def Unsealed.code (u : Unsealed) : ResultCode := if u.malformed then .malformed else verdictCode u.valid

/-- SEAL (R144). -/
def execSeal (s : State) : Host.Outcome State Fault Refusal :=
  match modeOf s.mode with
  | none => .next (complete .configError s)
  | some m =>
    if lengthBad maxPayload s then .next (complete .lengthError s)
    else .next (complete .ok (putOutput (sealFrame m s.addr s.hdr (ibufInput s)) (drawn s.ilen.toNat s)))

/-- UNSEAL (R150). -/
def execUnseal (s : State) : Host.Outcome State Fault Refusal :=
  match modeOf s.mode with
  | none => .next (complete .configError s)
  | some m =>
    if lengthBad bufCap s then .next (complete .lengthError s)
    else
      let u := unsealFrame m (ibufInput s)
      .next (complete u.code { putOutput u.stripped (drawn s.ilen.toNat s) with v := u.valid })

end Sys2Proof.Machine
end

