-- ==== Sys2Proof/Machine/Session.lean ====
section
/-! DEFINITION. The SER port (20_memory.md R86 to R89) and the Transport Session (43_transport_session.md): the exchange, OPEN and
XCHG. -/

namespace Sys2Proof.Machine

/-- `SerFlush()` (R86). -/
def serFlush (l : SerLine) : SerLine := { l with trace := l.trace ++ [.flush] }

/-- `SerWrite(s)` (R86). -/
def serWrite (bytes : List Byte) (l : SerLine) : SerLine := { l with trace := l.trace ++ [.write bytes] }

/-- A `SerRead`'s answer and the line after it. -/
structure SerAnswer where
  bytes : List Byte
  line : SerLine
  deriving DecidableEq, Repr

/-- `SerRead(n, t)` returns any byte sequence of length 0..n (R86, R88): the Peer's next answer, or a free one where the state
lists none, cut to n bytes. It always returns (R89). -/
def serRead (n : Nat) (t : Word) (l : SerLine) : SerAnswer :=
  match l.answers with
  | r :: rest =>
    { bytes := r.take n, line := { l with answers := rest, trace := l.trace ++ [.read n t] } }
  | [] =>
    { bytes := (Config.freeSerRead l.draws).take n, line := { l with trace := l.trace ++ [.read n t], draws := l.draws + 1 } }

/-- `RESPONSE(raddr, rhdr, payload, valid)` (R170). -/
structure Response where
  raddr : Byte
  rhdr : Byte
  payload : List Byte
  valid : Bool
  deriving DecidableEq, Repr

/-- What an exchange returns (R170): a response or NO_RESPONSE (`none`), the echo count k, and the line after it. -/
structure Exchange where
  response : Option Response
  echo : Nat
  line : SerLine
  deriving DecidableEq, Repr

/-- Steps 6 and 7 of R170 on a response frame r with length byte n, after a frame of L bytes was written and k came back as echo.
A stripped frame always has the three leading bytes (R174), so the last case never arises. -/
def parseResponse (m : IntegrityMode) (L k n : Nat) (r : List Byte) : Option Response :=
  let u := unsealFrame m r
  if k + 2 + (n + 3) ≤ L then none
  else match u.stripped with
    | ra :: _ :: rh :: payload => some { raddr := ra, rhdr := rh, payload := payload, valid := u.valid }
    | _ => none

/-- `exchange(a, m, t, h, p)` (R170), the step numbers in the source's order. -/
def exchange (a : Byte) (m : IntegrityMode) (t : Word) (h : Byte) (p : List Byte) (l : SerLine) : Exchange :=
  let f := sealFrame m a h p                                -- 1. build
  let e := serRead f.length t (serWrite f (serFlush l))     -- 2. write, 3. echo
  let hd := serRead 2 t e.line                              -- 4. length discovery
  match hd.bytes with
  | _ :: n :: _ =>
    let bd := serRead (n.toNat + 3) t hd.line               -- 5. body read
    if bd.bytes.length < n.toNat + 3 then { response := none, echo := e.bytes.length, line := bd.line }
    else
      { response := parseResponse m f.length e.bytes.length n.toNat (hd.bytes ++ bd.bytes)
        echo := e.bytes.length
        line := bd.line }
  | _ => { response := none, echo := e.bytes.length, line := hd.line }

/-- OPEN (R161). -/
def execOpen (s : State) : Host.Outcome State Fault Refusal :=
  if (modeOf s.mode).isNone || decide (s.addr = 0#8) then .next (complete .configError { s with sess := .closed })
  else .next (complete .ok { s with saddr := s.addr, smode := s.mode, stmo := s.tmo, sess := .idle })

/-- The result registers after an exchange without a response (R171). -/
def recordNoResponse (s : State) : State :=
  complete .noResponse { putOutput [] s with raddr := 0#8, rhdr := 0#8, v := false }

/-- The result registers after an exchange with a response (R171). -/
def recordResponse (r : Response) (s : State) : State :=
  complete (verdictCode r.valid) { putOutput r.payload s with raddr := r.raddr, rhdr := r.rhdr, v := r.valid }

/-- XCHG (R171): ECNT, W and the SER port in every case, then the response's or NO_RESPONSE's registers. -/
def execXchg (s : State) : Host.Outcome State Fault Refusal :=
  if opened s = false then .next (complete .notOpen s)
  else if lengthBad maxPayload s then .next (complete .lengthError s)
  else
    let x := exchange s.saddr (sessionMode s) s.stmo s.hdr (ibufInput s) s.ser
    let t := { drawn s.ilen.toNat s with
      ser := x.line, ecnt := BitVec.ofNat 9 x.echo, w := decide (x.echo = 0), sess := .idle }
    match x.response with
    | none => .next (recordNoResponse t)
    | some r => .next (recordResponse r t)

end Sys2Proof.Machine
end

