-- ==== Sys2Proof/Machine/Scanner.lean ====
section
/-! DEFINITION. The Address/Mode Scanner (45_scanner.md). SCAN is the one command that is not one transition (00_scope.md R16): it
begins here, then each step of the block makes one probe or ends the sweep, so that a Host access can land between. -/

namespace Sys2Proof.Machine

/-- `SCAN_ORDER[i]`, i = 0..254 (R220). -/
def scanOrder (i : Nat) : Nat :=
  if i = 0 then 40 else if i = 1 then 2 else if i = 2 then 1 else if i ≤ 39 then i else i + 1

/-- The address of `SCAN_SEQ(j)` (R220). -/
def scanAddress (j : Nat) : Byte := BitVec.ofNat 8 (scanOrder (j / 2))

/-- The mode of `SCAN_SEQ(j)` (R220). -/
def scanMode (j : Nat) : IntegrityMode := if j % 2 = 0 then .crc16 else .sum8

/-- The head of R222: save the session, empty DEVTAB, take SCANTMO; the sweep is then under way. -/
def scanBegin (s : State) : State :=
  { s with
    busy := true
    saveAddr := s.saddr, saveMode := s.smode, saveTmo := s.stmo
    devtab := [], devn := 0#10, scanpos := 0#10
    stmo := s.scantmo }

/-- The tail of R222: restore the session (R223), clear CANCEL and the exchange's result registers, and complete. -/
def scanFinish (rc : ResultCode) (s : State) : State :=
  complete rc { putOutput [] s with
    saddr := s.saveAddr, smode := s.saveMode, stmo := s.saveTmo
    cancel := false
    raddr := 0#8, rhdr := 0#8, ecnt := 0#9, v := false, w := false }

/-- Probe SCANPOS is over: what it found is appended and SCANPOS counts it (R222, R226). -/
def scanRecord (found : List Device) (line : SerLine) (s : State) : State :=
  { s with
    ser := line
    devtab := s.devtab ++ found
    devn := s.devn + BitVec.ofNat 10 found.length
    scanpos := s.scanpos + 1#10 }

/-- The name a probe records: the payload of the second exchange's response, or none of it (R226). -/
def deviceName (r : Option Response) : List Byte :=
  match r with
  | some r => r.payload
  | none => []

/-- One round of R222's loop on the session registers: the simple poll, and on a response (whatever its verdict, R225) the
name. -/
def scanProbe (s : State) : State :=
  let a := scanAddress s.scanpos.toNat
  let m := scanMode s.scanpos.toNat
  let t := { s with saddr := a, smode := m.code }
  let x := exchange a m s.stmo Config.simplePollHdr [] s.ser
  match x.response with
  | none => scanRecord [] x.line t
  | some _ =>
    let y := exchange a m s.stmo Config.manufIdHdr [] x.line
    scanRecord [{ address := a, mode := m, name := deviceName y.response }] y.line t

/-- One step of a running SCAN: CANCEL is sampled before the probe, never during one (R224). -/
def scanAdvance (s : State) : State :=
  if devCap ≤ s.scanpos.toNat then scanFinish .ok s
  else if s.cancel then scanFinish .cancelled s
  else scanProbe s

/-- SCAN (R222): refused without a session; a CANCEL already set stops it before the first probe (R224); else the sweep is under
way, BUSY = 1, and `scanAdvance` carries it on. -/
def execScan (s : State) : Host.Outcome State Fault Refusal :=
  if opened s = false then .next (complete .notOpen s)
  else if s.cancel then .next (scanFinish .cancelled (scanBegin s))
  else .next (scanBegin s)

end Sys2Proof.Machine
end

