-- ==== Sys2Proof/Machine/Dispatch.lean ====
section
/-! DEFINITION. One arm per command: its meaning. -/

namespace Sys2Proof.Machine

def exec (i : Instr) (s : State) : Host.Outcome State Fault Refusal :=
  match i with
  | .crcgen => Sys2Proof.Machine.execCrcgen s
  | .crcchk => Sys2Proof.Machine.execCrcchk s
  | .sumgen => Sys2Proof.Machine.execSumgen s
  | .sumchk => Sys2Proof.Machine.execSumchk s
  | .sealCmd => Sys2Proof.Machine.execSeal s
  | .unsealCmd => Sys2Proof.Machine.execUnseal s
  | .openCmd => Sys2Proof.Machine.execOpen s
  | .xchg => Sys2Proof.Machine.execXchg s
  | .decbill src => Sys2Proof.Machine.execDecbill src s
  | .deccoin src => Sys2Proof.Machine.execDeccoin src s
  | .decode src => Sys2Proof.Machine.execDecode src s
  | .scan => Sys2Proof.Machine.execScan s

end Sys2Proof.Machine
end

