-- ==== Sys2Proof/Machine/HostPort.lean ====
section
/-! DEFINITION. The HOST space (20_memory.md R70 to R80): what a `HostRead` returns, what a `HostWrite` does, the acceptance of a
command (30_encoding.md R105), and the events of the outside world. -/

namespace Sys2Proof.Machine

/-- The registers of the REG window (10_state.md R21). -/
inductive Reg where
  | cmd | status | ctrl | addr | mode | tmo | scantmo | hdr | ilen | arg | res | olen | rhdr | raddr | ecnt | evcnt
  | saddr | smode | stmo | devn | devsel | scanpos | devaddr | devmode | devnlen | evkind
  deriving DecidableEq, Repr

/-- The register with an index, 0x00..0x19 (R21). -/
def regAt (i : Nat) : Option Reg :=
  [Reg.cmd, .status, .ctrl, .addr, .mode, .tmo, .scantmo, .hdr, .ilen, .arg, .res, .olen, .rhdr, .raddr, .ecnt, .evcnt,
    .saddr, .smode, .stmo, .devn, .devsel, .scanpos, .devaddr, .devmode, .devnlen, .evkind][i]?

/-- A field of an EVT record, by its offset (R71); the offsets 5 to 7 are unmapped. -/
inductive EventField where
  | idx | cat | ra | rb | route
  deriving DecidableEq, Repr

/-- The field at an offset of a record (R71). -/
def eventFieldAt (f : Nat) : Option EventField := [EventField.idx, .cat, .ra, .rb, .route][f]?

/-- A location of the HOST space (R71): for EVT the number is the record's position, k - 1. -/
inductive Location where
  | reg (r : Reg)
  | ibuf (i : Nat)
  | obuf (i : Nat)
  | evt (k : Fin 5) (f : EventField)
  | devname (i : Nat)
  | unmapped
  deriving DecidableEq, Repr

/-- The EVT window, `k` the record's position and `f` the offset in it (R71). -/
def evtLocation (k f : Nat) : Location :=
  if h : k < 5 then
    match eventFieldAt f with
    | some field => .evt ⟨k, h⟩ field
    | none => .unmapped
  else .unmapped

/-- The HOST address map (R71). -/
def locate (a : HostAddr) : Location :=
  let n := a.toNat
  if n ≤ 0x019 then
    match regAt n with
    | some r => .reg r
    | none => .unmapped
  else if 0x100 ≤ n ∧ n ≤ 0x203 then .ibuf (n - 0x100)
  else if 0x300 ≤ n ∧ n ≤ 0x403 then .obuf (n - 0x300)
  else if 0x500 ≤ n ∧ n ≤ 0x527 then evtLocation ((n - 0x500) / 8) ((n - 0x500) % 8)
  else if 0x600 ≤ n ∧ n ≤ 0x6FE then .devname (n - 0x600)
  else .unmapped

/-! Reads -/

/-- The DEVTAB entry the window shows, none where `x[DEVSEL] >= x[DEVN]` (R47). -/
def selectedDevice (s : State) : Option Device :=
  if s.devsel.toNat < s.devn.toNat then s.devtab[s.devsel.toNat]? else none

/-- A register as the Host reads it while BUSY = 0, zero-extended (R21); `free` stands for what is unspecified. -/
def readReg (free : Word) (s : State) : Reg → Word
  | .cmd => 0#16
  | .status => statusWord s
  | .ctrl => (BitVec.ofBool s.cancel).setWidth 16
  | .addr => s.addr.setWidth 16
  | .mode => s.mode.setWidth 16
  | .tmo => s.tmo
  | .scantmo => s.scantmo
  | .hdr => s.hdr.setWidth 16
  | .ilen => s.ilen.setWidth 16
  | .arg => s.arg
  | .res => s.res
  | .olen => s.olen.setWidth 16
  | .rhdr => s.rhdr.setWidth 16
  | .raddr => s.raddr.setWidth 16
  | .ecnt => s.ecnt.setWidth 16
  | .evcnt => s.evcnt.setWidth 16
  | .saddr => s.saddr.setWidth 16
  | .smode => s.smode.setWidth 16
  | .stmo => s.stmo
  | .devn => s.devn.setWidth 16
  | .devsel => s.devsel.setWidth 16
  | .scanpos => s.scanpos.setWidth 16
  | .devaddr => (((selectedDevice s).map Device.address).getD (free.setWidth 8)).setWidth 16
  | .devmode => (((selectedDevice s).map fun d => d.mode.code).getD (free.setWidth 2)).setWidth 16
  | .devnlen => (((selectedDevice s).map fun d => BitVec.ofNat 8 d.name.length).getD (free.setWidth 8)).setWidth 16
  | .evkind => s.evkind.code.setWidth 16

/-- A field of record k, IDX being hardwired to k (R45). -/
def readEvent (s : State) (k : Fin 5) : EventField → Word
  | .idx => BitVec.ofNat 16 (k.val + 1)
  | .cat => (s.evt[k]).cat.code.setWidth 16
  | .ra => (s.evt[k]).ra.setWidth 16
  | .rb => (s.evt[k]).rb.setWidth 16
  | .route => (s.evt[k]).route.code.setWidth 16

/-- DEVNAME[i] (R47, R71), none at or beyond the selected entry's name. -/
def selectedName (s : State) (i : Nat) : Option Byte :=
  match selectedDevice s with
  | some d => d.name[i]?
  | none => none

/-- A location as the Host reads it while BUSY = 0 (R71, R72). -/
def readLocation (free : Word) (s : State) : Location → Word
  | .reg r => readReg free s r
  | .ibuf i => ((Memory.get? s.ibuf i).getD (free.setWidth 8)).setWidth 16
  | .obuf i => ((Memory.get? s.obuf i).getD (free.setWidth 8)).setWidth 16
  | .evt k f => readEvent s k f
  | .devname i => ((selectedName s i).getD (free.setWidth 8)).setWidth 16
  | .unmapped => free

/-- What a read of a location returns: while BUSY = 1 all is unspecified but STATUS.BUSY and STATUS.OPENED (R80). -/
def readValue (free : Word) (s : State) (l : Location) : Word :=
  if s.busy then
    if l = .reg .status then busyStatusWord free s else free
  else readLocation free s l

/-- `HostRead(a)`: the value goes to the Host and nothing of CCTH changes (R78). -/
def hostRead (a : HostAddr) (s : State) : State :=
  { s with rdata := readValue (Config.freeWord s.draws) s (locate a), draws := s.draws + 1 }

/-! Writes -/

/-- A write to a register other than CMD while BUSY = 0: truncated to its width (R21), ignored where read-only (R72). -/
def writeReg (v : Word) (s : State) : Reg → State
  | .ctrl => { s with cancel := v.getLsbD 0 }
  | .addr => { s with addr := v.setWidth 8 }
  | .mode => { s with mode := v.setWidth 2 }
  | .tmo => { s with tmo := v }
  | .scantmo => { s with scantmo := v }
  | .hdr => { s with hdr := v.setWidth 8 }
  | .ilen => { s with ilen := v.setWidth 9 }
  | .arg => { s with arg := v }
  | .devsel => { s with devsel := v.setWidth 10 }
  | .cmd => s
  | .status => s
  | .res => s
  | .olen => s
  | .rhdr => s
  | .raddr => s
  | .ecnt => s
  | .evcnt => s
  | .saddr => s
  | .smode => s
  | .stmo => s
  | .devn => s
  | .scanpos => s
  | .devaddr => s
  | .devmode => s
  | .devnlen => s
  | .evkind => s

/-- A write to a location other than CMD while BUSY = 0 (R71, R72). -/
def writeLocation (v : Word) (s : State) : Location → State
  | .reg r => writeReg v s r
  | .ibuf i => { s with ibuf := Memory.set s.ibuf i (v.setWidth 8) }
  | .obuf _ => s
  | .evt _ _ => s
  | .devname _ => s
  | .unmapped => s

/-- A write to CMD while BUSY = 0 is accepted (R30, R105): BUSY is set, the word decoded, and the command executed; an illegal
word only sets RC (R104). -/
def accept (word : Word) (s : State) : Host.Outcome State Fault Refusal :=
  match decode word with
  | .ok i => exec i { s with busy := true }
  | .error _ => .next (illegalCommand { s with busy := true })

/-- `HostWrite(a, v)`: while BUSY = 1 only a write to CTRL takes effect (R80). -/
def hostWrite (a : HostAddr) (v : Word) (s : State) : Host.Outcome State Fault Refusal :=
  if s.busy then
    .next (if locate a = .reg .ctrl then writeReg v s .ctrl else s)
  else if locate a = .reg .cmd then accept v s
  else .next (writeLocation v s (locate a))

/-! Events -/

/-- What the block does when the Host leaves it alone: a running SCAN makes one step, and without one nothing happens (R254). -/
def advance (s : State) : State := if s.busy then scanAdvance s else s

/-- Reset in the middle of a running SCAN's step or of the command `word` (R270, U12). -/
def resetDuring (word : Word) (cut : Nat) (s : State) : Host.Outcome State Fault Refusal :=
  if s.busy then .next (abandon s (scanAdvance s) cut)
  else
    match accept word s with
    | .next t => .next (abandon s t cut)
    | .fault r => .fault r
    | .refused r => .refused r

/-- One event of the outside world. A reset takes effect in one step and has no held level, so no Host access falls while it is
asserted: R270 gives the state then and not what such an access does (log entry 13, DESIGN CHOICE). -/
def react (e : HostEvent) (s : State) : Host.Outcome State Fault Refusal :=
  match e with
  | .pause => .next (advance s)
  | .read a => .next (hostRead a s)
  | .write a v => hostWrite a v s
  | .reset => .next (resetBlock s)
  | .resetDuring word cut => resetDuring word cut s

/-- The HOST address of CMD (R21). -/
def cmdAddr : HostAddr := 0x000#11

/-- The state with a CMD write of `word` as the very next event, and BUSY = 0 so that it is accepted (R105). -/
def withCommand (word : Word) (s : State) : State :=
  { s with busy := false, host := .write cmdAddr word :: s.host }

end Sys2Proof.Machine
end

