-- ==== Sys2Proof/Machine/Step.lean ====
section
/-! DEFINITION. One step: the next event of the outside world, or, where none is listed, the block left alone (00_scope.md R14,
R16). CCTH fetches nothing (10_state.md R22): its "next instruction" is the word of the Host's next accepted write to CMD. -/

namespace Sys2Proof.Machine

def step (s : State) : Host.Outcome State Fault Refusal :=
  match s.host with
  | [] => .next (advance s)
  | e :: rest => react e { s with host := rest }

/-- A command is one 16-bit word, so this is the Host's write of that word to CMD as the very next event (log entry 2). -/
def State.withFetchWord (s : State) (nbits w : Nat) : State := withCommand (BitVec.ofNat 16 (w % 2 ^ nbits)) s

end Sys2Proof.Machine
end

