-- ==== Sys2Proof/Safety.lean ====
section
/-! DEFINITION. The words the statements use: the invariant of CCTH, what each command may write, the spec's own forms of the CRC
and of the sweep's loop, and the probe order. None of it is used by the machine. -/

namespace Sys2Proof.Machine

/-! The invariant -/

/-- A value SMODE may hold when a session exists (10_state.md R32, 43_transport_session.md R171). -/
def modeSelected (m : BitVec 2) : Prop := m = 1#2 ∨ m = 2#2

/-- A record a decoder wrote: never NONE (R191), and routed only if it is a credit (R192). -/
def EventRecord.decoded (r : EventRecord) : Prop := r.cat ≠ .none ∧ (r.cat ≠ .credit → r.route = .na)

/-- What holds of CCTH at every step. -/
structure State.Inv (s : State) : Prop where
  /-- IBUF is in canonical form (R43). -/
  ibuf_wf : Memory.wf s.ibuf = true
  /-- OBUF has a value exactly at the indices below OLEN (R44). -/
  obuf_keys : s.obuf.map Prod.fst = List.range s.olen.toNat
  /-- OLEN is 0..260 (R39). -/
  olen_le : s.olen.toNat ≤ bufCap
  /-- ECNT is 0..260 (R41). -/
  ecnt_le : s.ecnt.toNat ≤ bufCap
  /-- An open session has a valid mode and an address 1..255 (R161, R171, R220). -/
  session : s.sess = .idle → modeSelected s.smode ∧ s.saddr ≠ 0#8
  /-- What a running SCAN will restore is a session too, and the session is open (R222, R223). -/
  scanning : s.busy = true → s.sess = .idle ∧ modeSelected s.saveMode ∧ s.saveAddr ≠ 0#8
  /-- DEVN is the length of DEVTAB (R47). -/
  devn_eq : s.devn.toNat = s.devtab.length
  /-- At most one entry per probe (R226). -/
  devn_le : s.devn.toNat ≤ s.scanpos.toNat
  /-- SCANPOS is 0..510 (R47). -/
  scanpos_le : s.scanpos.toNat ≤ devCap
  /-- Every entry has an address 1..255 and a name of 0..255 bytes (R47). -/
  devices : ∀ d ∈ s.devtab, d.address ≠ 0#8 ∧ d.name.length ≤ maxPayload
  /-- Until a decoder has run EVT is as reset left it (R45, R46). -/
  events_none : s.evkind = .none → ∀ k : Fin 5, s.evt[k] = .cleared
  /-- After one has run every record is one it wrote (R191, R192). -/
  events_some : s.evkind ≠ .none → ∀ k : Fin 5, (s.evt[k]).decoded
  /-- "ROUTE is NA in every coin record" (R195). -/
  events_coin : s.evkind = .coin → ∀ k : Fin 5, (s.evt[k]).route = .na

/-! What a command may write -/

/-- The parts of State. -/
inductive Field where
  | busy | v | w | rc | sess | cancel | addr | mode | tmo | scantmo | hdr | ilen | arg | res | olen | rhdr | raddr | ecnt
  | evcnt | evkind | saddr | smode | stmo | devn | devsel | scanpos | saveAddr | saveMode | saveTmo | ibuf | obuf | evt
  | devtab | ser | host | rdata | draws
  deriving DecidableEq, Repr

/-- A part of State is the same in two states; a buffer is, when every index reads the same. -/
def sameField (s t : State) : Field → Prop
  | .busy => s.busy = t.busy
  | .v => s.v = t.v
  | .w => s.w = t.w
  | .rc => s.rc = t.rc
  | .sess => s.sess = t.sess
  | .cancel => s.cancel = t.cancel
  | .addr => s.addr = t.addr
  | .mode => s.mode = t.mode
  | .tmo => s.tmo = t.tmo
  | .scantmo => s.scantmo = t.scantmo
  | .hdr => s.hdr = t.hdr
  | .ilen => s.ilen = t.ilen
  | .arg => s.arg = t.arg
  | .res => s.res = t.res
  | .olen => s.olen = t.olen
  | .rhdr => s.rhdr = t.rhdr
  | .raddr => s.raddr = t.raddr
  | .ecnt => s.ecnt = t.ecnt
  | .evcnt => s.evcnt = t.evcnt
  | .evkind => s.evkind = t.evkind
  | .saddr => s.saddr = t.saddr
  | .smode => s.smode = t.smode
  | .stmo => s.stmo = t.stmo
  | .devn => s.devn = t.devn
  | .devsel => s.devsel = t.devsel
  | .scanpos => s.scanpos = t.scanpos
  | .saveAddr => s.saveAddr = t.saveAddr
  | .saveMode => s.saveMode = t.saveMode
  | .saveTmo => s.saveTmo = t.saveTmo
  | .ibuf => ∀ i, Memory.get? s.ibuf i = Memory.get? t.ibuf i
  | .obuf => ∀ i, Memory.get? s.obuf i = Memory.get? t.obuf i
  | .evt => ∀ k : Fin 5, s.evt[k] = t.evt[k]
  | .devtab => s.devtab = t.devtab
  | .ser => s.ser = t.ser
  | .host => s.host = t.host
  | .rdata => s.rdata = t.rdata
  | .draws => s.draws = t.draws

/-- What a SCAN writes, from its start to its completion (R222; R21's column "written by the block in"). -/
def scanWrites : List Field :=
  [.busy, .rc, .v, .w, .cancel, .olen, .obuf, .rhdr, .raddr, .ecnt, .saddr, .smode, .stmo, .devn, .devtab, .scanpos,
    .saveAddr, .saveMode, .saveTmo, .ser]

/-- What each command writes (R21's column "written by the block in", and the flags its rule lists). Every command writes RC and
BUSY (R24, R28); `draws` is the model's own count of free values. -/
def commandWrites : Instr → List Field
  | .crcgen => [.busy, .rc, .draws, .res]
  | .crcchk => [.busy, .rc, .draws, .res, .v]
  | .sumgen => [.busy, .rc, .draws, .res]
  | .sumchk => [.busy, .rc, .draws, .res, .v]
  | .sealCmd => [.busy, .rc, .draws, .obuf, .olen]
  | .unsealCmd => [.busy, .rc, .draws, .obuf, .olen, .v]
  | .openCmd => [.busy, .rc, .saddr, .smode, .stmo, .sess]
  | .xchg => [.busy, .rc, .draws, .obuf, .olen, .rhdr, .raddr, .ecnt, .v, .w, .ser]
  | .decbill _ => [.busy, .rc, .draws, .evt, .evcnt, .evkind]
  | .deccoin _ => [.busy, .rc, .draws, .evt, .evcnt, .evkind]
  | .decode _ => [.busy, .rc, .draws, .evt, .evcnt, .evkind]
  | .scan => scanWrites

/-- The result codes each command can complete with (60_exceptions.md R240, column "raised by"; OK by every command). -/
def commandCodes : Instr → List ResultCode
  | .crcgen => [.ok, .lengthError]
  | .crcchk => [.ok, .integrityMismatch, .lengthError]
  | .sumgen => [.ok, .lengthError]
  | .sumchk => [.ok, .integrityMismatch, .lengthError]
  | .sealCmd => [.ok, .configError, .lengthError]
  | .unsealCmd => [.ok, .integrityMismatch, .malformed, .configError, .lengthError]
  | .openCmd => [.ok, .configError]
  | .xchg => [.ok, .noResponse, .integrityMismatch, .notOpen, .lengthError]
  | .decbill _ => [.ok, .lengthError]
  | .deccoin _ => [.ok, .lengthError]
  | .decode _ => [.ok, .lengthError, .notEvent]
  | .scan => [.ok, .notOpen, .cancelled]

/-- The fifteen legal words (30_encoding.md R102), each with its command. -/
def legalWords : List (Word × Instr) :=
  [(0x0010#16, .crcgen), (0x0011#16, .crcchk), (0x0012#16, .sumgen), (0x0013#16, .sumchk), (0x0020#16, .sealCmd),
    (0x0021#16, .unsealCmd), (0x0030#16, .openCmd), (0x0031#16, .xchg), (0x0040#16, .decbill .ibuf),
    (0x0140#16, .decbill .obuf), (0x0041#16, .deccoin .ibuf), (0x0141#16, .deccoin .obuf), (0x0042#16, .decode .ibuf),
    (0x0142#16, .decode .obuf), (0x0050#16, .scan)]

/-! The spec's other form of the CRC -/

/-- One shift of R120: `if c & 0x8000 != 0 then (c << 1) ^ 0x1021 else c << 1`, in 16 bits. -/
def crcShift (c : Word) : Word := if c &&& 0x8000#16 ≠ 0#16 then (c <<< 1) ^^^ 0x1021#16 else c <<< 1

/-- Eight of them. -/
def crcShift8 (c : Word) : Word := crcShift (crcShift (crcShift (crcShift (crcShift (crcShift (crcShift (crcShift c)))))))

/-- The bit-serial form of R122 (d). -/
def crcBitSerial : Word → List Byte → Word
  | c, [] => c
  | c, b :: bs => crcBitSerial (crcShift8 (c ^^^ (b.setWidth 16 <<< 8))) bs

/-! The sweep as one loop -/

/-- `SCAN_ORDER` as R220 lists it: 40, 2, 1, then 3..255 without 40. -/
def scanOrderList : List Nat := [40, 2, 1] ++ (List.range' 3 253).filter (fun a => decide (a ≠ 40))

/-- `SCAN_SEQ`: the address loop outside, the mode loop inside (R220). -/
def scanSeq : List (Byte × IntegrityMode) :=
  scanOrderList.flatMap fun a => [(BitVec.ofNat 8 a, .crc16), (BitVec.ofNat 8 a, .sum8)]

/-- What R222's loop carries: the SER port and the entries found. -/
structure Sweep where
  line : SerLine
  found : List Device
  deriving DecidableEq, Repr

/-- The body of R222's loop at timeout t. -/
def sweepProbe (t : Word) (x : Sweep) (am : Byte × IntegrityMode) : Sweep :=
  let r1 := exchange am.1 am.2 t Config.simplePollHdr [] x.line
  match r1.response with
  | none => { x with line := r1.line }
  | some _ =>
    let r2 := exchange am.1 am.2 t Config.manufIdHdr [] r1.line
    let name := match r2.response with
      | some r => r.payload
      | none => []
    { line := r2.line, found := x.found ++ [{ address := am.1, mode := am.2, name := name }] }

/-- R222's loop over the whole probe sequence, not cancelled. -/
def sweepAll (t : Word) (line : SerLine) : Sweep := scanSeq.foldl (sweepProbe t) { line := line, found := [] }

/-- "Entries appear in DEVTAB in probe order" (R226), among the probes made so far. -/
def ProbeOrder (s : State) : Prop :=
  (s.devtab.map fun d => (d.address, d.mode)).Sublist (scanSeq.take s.scanpos.toNat)

/-- An event that leaves CCTH running. -/
def HostEvent.keepsRunning : HostEvent → Bool
  | .pause => true
  | .read _ => true
  | .write _ _ => true
  | .reset => false
  | .resetDuring _ _ => false

end Sys2Proof.Machine
end

