-- ==== Sys2Proof/Certificates/Slice0/Obligations.lean ====
section
/-! DEFINITION. The statements for the provers, in the order of spec/'s files. -/

open Sys2Proof Sys2Proof.Machine

/-! Encoding (30_encoding.md) -/

/-- R102, "As words": the decoder accepts exactly the fifteen words listed there, each as the command listed with it. -/
def Obligations.LegalWordsAreTheFifteenListed : Prop :=
  ∀ (w : Word) (i : Instr), decode w = .ok i ↔ (w, i) ∈
    [(0x0010#16, Instr.crcgen), (0x0011#16, .crcchk), (0x0012#16, .sumgen), (0x0013#16, .sumchk), (0x0020#16, .sealCmd),
      (0x0021#16, .unsealCmd), (0x0030#16, .openCmd), (0x0031#16, .xchg), (0x0040#16, .decbill .ibuf),
      (0x0140#16, .decbill .obuf), (0x0041#16, .deccoin .ibuf), (0x0141#16, .deccoin .obuf), (0x0042#16, .decode .ibuf),
      (0x0142#16, .decode .obuf), (0x0050#16, .scan)]

/-- Decoder and encoder agree in both directions: no operand is lost, and no legal word has a second spelling. -/
def Obligations.DecodeAndEncodeAgree : Prop :=
  (∀ i : Instr, i.wf = true → decode (encode i) = .ok i) ∧ ∀ (w : Word) (i : Instr), decode w = .ok i → encode i = w

/-- The sample words of 95_test_vectors.md section 2.7, written out bit by bit: RSV, S, OPC. -/
def Obligations.SampleWordsDecode : Prop :=
  decode 0b0000000000010000#16 = .ok .crcgen ∧ decode 0b0000000000110001#16 = .ok .xchg ∧
  decode 0b0000000001000010#16 = .ok (.decode .ibuf) ∧ decode 0b0000000101000010#16 = .ok (.decode .obuf) ∧
  decode 0b0000000101000000#16 = .ok (.decbill .obuf) ∧ decode 0b0000000001010000#16 = .ok .scan ∧
  decode 0b0000000100010000#16 = .error .sourceNotAllowed ∧ decode 0b0000001000010000#16 = .error .reservedBits ∧
  decode 0b0000000000000000#16 = .error .unassignedOpcode

/-- R101: the three tests of a word, in order; a word that passes them is the command with its opcode and its S. -/
def Obligations.WordsAreTestedInOrder : Prop :=
  ∀ w : Word,
    let rsv := w.extractLsb' 9 7
    let s := w.getLsbD 8
    let opc := w.extractLsb' 0 8
    (rsv ≠ 0#7 → decode w = .error .reservedBits) ∧
    (rsv = 0#7 → opc ∉ opcodesWithoutSource ++ opcodesWithSource → decode w = .error .unassignedOpcode) ∧
    (rsv = 0#7 → opc ∈ opcodesWithoutSource → s = true → decode w = .error .sourceNotAllowed) ∧
    (rsv = 0#7 → (opc ∈ opcodesWithoutSource ∧ s = false) ∨ opc ∈ opcodesWithSource →
      ∃ i : Instr, decode w = .ok i ∧ i.opc = opc ∧ i.sBit = s)

/-- R104: any word but the fifteen, written to CMD while BUSY = 0, sets RC to ILLEGAL_CMD and changes nothing else. -/
def Obligations.IllegalWordOnlySetsResultCode : Prop :=
  ∀ (s : State) (w : Word) (rest : List HostEvent), s.host = .write 0x000#11 w :: rest → s.busy = false →
    w ∉ [0x0010#16, 0x0011#16, 0x0012#16, 0x0013#16, 0x0020#16, 0x0021#16, 0x0030#16, 0x0031#16, 0x0040#16, 0x0140#16,
      0x0041#16, 0x0141#16, 0x0042#16, 0x0142#16, 0x0050#16] →
    step s = .next { s with host := rest, rc := .illegalCmd }

/-! A step (00_scope.md, 20_memory.md) -/

/-- R105: the word of a CMD write made while BUSY = 0 is decoded and its command executed on the state at acceptance, with BUSY
set. -/
def Obligations.AcceptedWordRunsItsCommand : Prop :=
  ∀ (s : State) (w : Word) (i : Instr) (rest : List HostEvent), s.host = .write 0x000#11 w :: rest → s.busy = false →
    decode w = .ok i → step s = exec i { s with host := rest, busy := true }

/-- R17, R240, R247: there is no trap, so each single step, from every state, answers a next state. It leans on log entry 3, which
has every `SerRead` return (R89); that a running SCAN ends is `ScanEndsWithin511Steps`. -/
def Obligations.EveryStepAnswersNext : Prop := ∀ s : State, ∃ t : State, step s = .next t

/-- R80, R29, R105 and D47: while BUSY = 1 a write to CTRL takes effect, every other write (a CMD write among them) changes nothing,
and a read changes nothing of CCTH, STATUS showing BUSY = 1 and the session's OPENED. That STATUS bits 15:8 read 0 then too is the
model's reading of R23 (log entry 6, DEDUCED); R80 does not say it. -/
def Obligations.BusyBlockTakesOnlyControlWrites : Prop :=
  ∀ (s : State) (a : HostAddr) (rest : List HostEvent), s.busy = true →
    (∀ v : Word, s.host = .write a v :: rest →
      step s = .next (if a = 0x002#11 then { s with host := rest, cancel := v.getLsbD 0 } else { s with host := rest })) ∧
    (s.host = .read a :: rest →
      ∃ x : Word, step s = .next { s with host := rest, rdata := x, draws := s.draws + 1 } ∧
        (a = 0x001#11 → x.getLsbD 0 = true ∧ (x.getLsbD 1 = true ↔ s.sess = .idle) ∧ x.extractLsb' 8 8 = 0#8))

/-- R72, and of R78 that a read has no side effect: while BUSY = 0 a write anywhere but to CMD, a read/write register or IBUF changes
nothing, and a read of any address changes nothing but what the Host receives and the model's draw count (log entry 4). -/
def Obligations.UnmappedAndReadOnlyWritesChangeNothing : Prop :=
  ∀ (s : State) (a : HostAddr) (rest : List HostEvent), s.busy = false →
    (∀ v : Word, s.host = .write a v :: rest →
      a ∉ [0x000#11, 0x002#11, 0x003#11, 0x004#11, 0x005#11, 0x006#11, 0x007#11, 0x008#11, 0x009#11, 0x014#11] →
      ¬ (0x100 ≤ a.toNat ∧ a.toNat ≤ 0x203) → step s = .next { s with host := rest }) ∧
    (s.host = .read a :: rest →
      ∃ x : Word, step s = .next { s with host := rest, rdata := x, draws := s.draws + 1 })

/-- R21, R29 to R37, R47: a write to each read/write register keeps the register's low bits and changes nothing else. -/
def Obligations.RegisterWritesTruncate : Prop :=
  ∀ (s : State) (a : HostAddr) (v : Word) (rest : List HostEvent), s.busy = false → s.host = .write a v :: rest →
    (a = 0x002#11 → step s = .next { s with host := rest, cancel := v.getLsbD 0 }) ∧
    (a = 0x003#11 → step s = .next { s with host := rest, addr := v.setWidth 8 }) ∧
    (a = 0x004#11 → step s = .next { s with host := rest, mode := v.setWidth 2 }) ∧
    (a = 0x005#11 → step s = .next { s with host := rest, tmo := v }) ∧
    (a = 0x006#11 → step s = .next { s with host := rest, scantmo := v }) ∧
    (a = 0x007#11 → step s = .next { s with host := rest, hdr := v.setWidth 8 }) ∧
    (a = 0x008#11 → step s = .next { s with host := rest, ilen := v.setWidth 9 }) ∧
    (a = 0x009#11 → step s = .next { s with host := rest, arg := v }) ∧
    (a = 0x014#11 → step s = .next { s with host := rest, devsel := v.setWidth 10 })

/-- R43, R71: a write to IBUF[i] stores the low byte there, leaves every other byte of IBUF as it was, and changes nothing else
of the machine. -/
def Obligations.BufferWriteStoresOneByte : Prop :=
  ∀ (s : State) (i : Nat) (v : Word) (rest : List HostEvent), s.busy = false → i < 260 →
    s.host = .write (BitVec.ofNat 11 (0x100 + i)) v :: rest →
    ∃ m : Memory, step s = .next { s with host := rest, ibuf := m } ∧
      Memory.get? m i = some (v.setWidth 8) ∧ (∀ j, j ≠ i → Memory.get? m j = Memory.get? s.ibuf j) ∧
      (Memory.wf s.ibuf = true → Memory.wf m = true)

/-- R21: what a Host read of each register of the REG window returns while BUSY = 0: the register, its upper bits zero; CMD reads
0; the DEVTAB window shows the entry DEVSEL selects. STATUS is the subject of `StatusWordHasItsFields`. -/
def Obligations.RegisterReadsZeroExtend : Prop :=
  ∀ (s t : State) (a : HostAddr) (rest : List HostEvent), s.busy = false → s.host = .read a :: rest → step s = .next t →
    (a = 0x000#11 → t.rdata = 0#16) ∧ (a = 0x001#11 → t.rdata = statusWord s) ∧
    (a = 0x002#11 → t.rdata = if s.cancel then 1#16 else 0#16) ∧
    (a = 0x003#11 → t.rdata = s.addr.setWidth 16) ∧ (a = 0x004#11 → t.rdata = s.mode.setWidth 16) ∧
    (a = 0x005#11 → t.rdata = s.tmo) ∧ (a = 0x006#11 → t.rdata = s.scantmo) ∧
    (a = 0x007#11 → t.rdata = s.hdr.setWidth 16) ∧ (a = 0x008#11 → t.rdata = s.ilen.setWidth 16) ∧
    (a = 0x009#11 → t.rdata = s.arg) ∧ (a = 0x00A#11 → t.rdata = s.res) ∧
    (a = 0x00B#11 → t.rdata = s.olen.setWidth 16) ∧ (a = 0x00C#11 → t.rdata = s.rhdr.setWidth 16) ∧
    (a = 0x00D#11 → t.rdata = s.raddr.setWidth 16) ∧ (a = 0x00E#11 → t.rdata = s.ecnt.setWidth 16) ∧
    (a = 0x00F#11 → t.rdata = s.evcnt.setWidth 16) ∧ (a = 0x010#11 → t.rdata = s.saddr.setWidth 16) ∧
    (a = 0x011#11 → t.rdata = s.smode.setWidth 16) ∧ (a = 0x012#11 → t.rdata = s.stmo) ∧
    (a = 0x013#11 → t.rdata = s.devn.setWidth 16) ∧ (a = 0x014#11 → t.rdata = s.devsel.setWidth 16) ∧
    (a = 0x015#11 → t.rdata = s.scanpos.setWidth 16) ∧
    (∀ d : Device, s.devsel.toNat < s.devn.toNat → s.devtab[s.devsel.toNat]? = some d →
      (a = 0x016#11 → t.rdata = d.address.setWidth 16) ∧
      (a = 0x017#11 → t.rdata = if d.mode = .crc16 then 1#16 else 2#16) ∧
      (a = 0x018#11 → d.name.length ≤ 255 → t.rdata = BitVec.ofNat 16 d.name.length)) ∧
    (a = 0x019#11 → t.rdata = if s.evkind = .none then 0#16 else if s.evkind = .bill then 1#16 else 2#16)

/-- R71: what a Host read of the buffer, EVT and DEVNAME windows returns while BUSY = 0, wherever a value is held. -/
def Obligations.WindowReadsShowTheBytes : Prop :=
  ∀ (s t : State) (a : HostAddr) (rest : List HostEvent), s.busy = false → s.host = .read a :: rest → step s = .next t →
    (∀ (i : Nat) (b : Byte), i < 260 → a.toNat = 0x100 + i → Memory.get? s.ibuf i = some b → t.rdata = b.setWidth 16) ∧
    (∀ (i : Nat) (b : Byte), i < 260 → a.toNat = 0x300 + i → Memory.get? s.obuf i = some b → t.rdata = b.setWidth 16) ∧
    (∀ k : Fin 5,
      (a.toNat = 0x500 + 8 * k.val → t.rdata = BitVec.ofNat 16 (k.val + 1)) ∧
      (a.toNat = 0x500 + 8 * k.val + 1 → t.rdata = (s.evt[k]).cat.code.setWidth 16) ∧
      (a.toNat = 0x500 + 8 * k.val + 2 → t.rdata = (s.evt[k]).ra.setWidth 16) ∧
      (a.toNat = 0x500 + 8 * k.val + 3 → t.rdata = (s.evt[k]).rb.setWidth 16) ∧
      (a.toNat = 0x500 + 8 * k.val + 4 → t.rdata = (s.evt[k]).route.code.setWidth 16)) ∧
    (∀ (d : Device) (i : Nat) (b : Byte), s.devsel.toNat < s.devn.toNat → s.devtab[s.devsel.toNat]? = some d →
      i < 255 → a.toNat = 0x600 + i → d.name[i]? = some b → t.rdata = b.setWidth 16)

/-- R23, R25, R28: the fields of STATUS as the Host reads it while BUSY = 0, the numbers of the result codes, the reset value, and
that a write to STATUS is ignored. -/
def Obligations.StatusWordHasItsFields : Prop :=
  (∀ s : State, (statusWord s).getLsbD 0 = s.busy ∧ ((statusWord s).getLsbD 1 = true ↔ s.sess = .idle) ∧
    (statusWord s).getLsbD 2 = s.v ∧ (statusWord s).getLsbD 3 = s.w ∧
    (statusWord s).extractLsb' 4 4 = s.rc.code ∧ (statusWord s).extractLsb' 8 8 = 0#8) ∧
  [ResultCode.ok, .noResponse, .integrityMismatch, .malformed, .configError, .illegalCmd, .notOpen, .lengthError, .cancelled,
    .notEvent].map ResultCode.code = [0#4, 1#4, 2#4, 3#4, 4#4, 5#4, 6#4, 7#4, 8#4, 9#4] ∧
  statusWord State.reset = 0x0000#16 ∧
  ∀ (s : State) (v : Word) (rest : List HostEvent), s.host = .write 0x001#11 v :: rest →
    step s = .next { s with host := rest }

/-- R10, R90: the input sequence of a command has the length register's length and holds, at every index below it that has a
value, that byte. -/
def Obligations.InputsAreTheBufferBytes : Prop :=
  ∀ s : State,
    (ibufInput s).length = s.ilen.toNat ∧ (obufInput s).length = s.olen.toNat ∧
    (∀ (i : Nat) (b : Byte), i < s.ilen.toNat → Memory.get? s.ibuf i = some b → (ibufInput s)[i]? = some b) ∧
    (∀ (i : Nat) (b : Byte), i < s.olen.toNat → Memory.get? s.obuf i = some b → (obufInput s)[i]? = some b)

/-! Reset (10_state.md R50, 70_reset_and_hazards.md R270) -/

/-- R50: every value the spec states for reset, no byte of the buffers and no DEVTAB entry; and an OPEN issued before the Host
configures the block is refused with CONFIG_ERROR. -/
def Obligations.ResetStateIsAsStated : Prop :=
  let s := State.reset
  statusWord s = 0x0000#16 ∧ s.busy = false ∧ s.sess = .closed ∧ s.v = false ∧ s.w = false ∧ s.rc = .ok ∧
  s.cancel = false ∧ s.addr = 0#8 ∧ s.mode = 0#2 ∧ s.tmo = 0#16 ∧ s.scantmo = 0#16 ∧ s.hdr = 0#8 ∧ s.ilen = 0#9 ∧
  s.arg = 0#16 ∧ s.res = 0#16 ∧ s.olen = 0#9 ∧ s.rhdr = 0#8 ∧ s.raddr = 0#8 ∧ s.ecnt = 0#9 ∧ s.evcnt = 0#8 ∧
  s.evkind.code = 0#2 ∧ s.saddr = 0#8 ∧ s.smode = 0#2 ∧ s.stmo = 0#16 ∧ s.devn = 0#10 ∧ s.devsel = 0#10 ∧
  s.scanpos = 0#10 ∧ s.devtab = [] ∧
  (∀ k : Fin 5, readEvent s k .idx = BitVec.ofNat 16 (k.val + 1) ∧
    s.evt[k] = { cat := .none, ra := 0#8, rb := 0#8, route := .na }) ∧
  (∀ i, Memory.get? s.ibuf i = none ∧ Memory.get? s.obuf i = none) ∧ selectedDevice s = none ∧
  ∃ t, exec .openCmd s = .next t ∧ t.rc = .configError

/-- R270: reset takes the block to its reset state from any state, and leaves the serial side as it is: "bytes already written
stay written, and inbound bytes stay pending". -/
def Obligations.ResetLeavesTheSerialSide : Prop :=
  ∀ (s : State) (rest : List HostEvent), s.host = .reset :: rest →
    step s = .next { State.reset with ser := s.ser, host := rest, rdata := s.rdata, draws := s.draws }

/-- R270, U12: reset in the middle of a command or of a running SCAN's probe: the block is in its reset state, and of the SER
transactions the abandoned work would have made exactly the first `cut` were made, or all of them where there are fewer, and their
reads have taken their answers. Where in the work a reset may land is the model's reading of U12 (log entry 9). -/
def Obligations.ResetAbandonsWorkInFlight : Prop :=
  ∀ (s : State) (w : Word) (cut : Nat) (rest : List HostEvent), s.host = .resetDuring w cut :: rest →
    ∃ (t u : State), step s = .next t ∧
      (s.busy = true → u = scanAdvance { s with host := rest }) ∧
      (s.busy = false → accept w { s with host := rest } = .next u) ∧
      t = { State.reset with ser := t.ser, host := rest, rdata := s.rdata, draws := t.draws } ∧
      s.ser.trace <+: t.ser.trace ∧ t.ser.trace <+: u.ser.trace ∧
      t.ser.trace.length = min (s.ser.trace.length + cut) u.ser.trace.length ∧
      t.ser.answers = s.ser.answers.drop (readCount (t.ser.trace.drop s.ser.trace.length))

/-! Integrity Codec (41_integrity_codec.md) -/

/-- R120, R121: entry i of the printed table is what eight shifts of `i << 8` give; the initial value, the round, and the split
into msb and lsb. R120 marks the table's contents as general knowledge, not in source. -/
def Obligations.CrcFollowsTheRecurrence : Prop :=
  (∀ i : Byte, crcTab i = crcShift8 (i.setWidth 16 <<< 8)) ∧
  crc16 [] = 0x0000#16 ∧
  (∀ (s : List Byte) (b : Byte),
    crc16 (s ++ [b]) = (crc16 s <<< 8) ^^^ crcTab ((crc16 s >>> 8).setWidth 8 ^^^ b)) ∧
  ∀ s : List Byte, crcMsb (crc16 s) = (crc16 s >>> 8).setWidth 8 ∧ crcLsb (crc16 s) = (crc16 s &&& 0x00FF#16).setWidth 8

/-- R122 (d): the table-driven CRC is the bit-serial one on every byte sequence. -/
def Obligations.CrcEqualsTheBitSerialForm : Prop := ∀ s : List Byte, crc16 s = crcBitSerial 0x0000#16 s

/-- R122 (c), (e): leading zero bytes do not change the CRC, and a sequence followed by its msb and lsb has CRC 0. -/
def Obligations.CrcOfSequenceAndItsCrcIsZero : Prop :=
  (∀ s : List Byte, crc16 (0#8 :: s) = crc16 s) ∧
  ∀ s : List Byte, crc16 (s ++ [crcMsb (crc16 s), crcLsb (crc16 s)]) = 0x0000#16

/-- R125, R128 (d): the checksum's value, its contract, its value on no bytes, and that the two receive tests agree. -/
def Obligations.ChecksumMakesTheSumZero : Prop :=
  (∀ s : List Byte, (checksum8 s).toNat = (256 - sumBytes s % 256) % 256 ∧
    (sumBytes s + (checksum8 s).toNat) % 256 = 0) ∧
  checksum8 [] = 0#8 ∧
  ∀ (s : List Byte) (rc : Byte), rc = checksum8 s ↔ (sumBytes s + rc.toNat) % 256 = 0

/-- R123: CRCGEN, its word, both outcomes, and its example. -/
def Obligations.CrcgenWritesTheCrc : Prop :=
  encode .crcgen = 0x0010#16 ∧
  (∀ s : State, 260 < s.ilen.toNat → exec .crcgen s = .next { s with rc := .lengthError, busy := false }) ∧
  (∀ s : State, s.ilen.toNat ≤ 260 → exec .crcgen s =
    .next { s with res := crc16 (ibufInput s), rc := .ok, busy := false, draws := s.draws + s.ilen.toNat }) ∧
  crc16 [1, 2, 0, 31, 0] = 0x5474#16

/-- R124: CRCCHK, its word and its outcomes: V is 1 exactly when the CRC is ARG. -/
def Obligations.CrcchkComparesWithArg : Prop :=
  encode .crcchk = 0x0011#16 ∧
  (∀ s : State, 260 < s.ilen.toNat → exec .crcchk s = .next { s with rc := .lengthError, busy := false }) ∧
  (∀ s : State, s.ilen.toNat ≤ 260 → crc16 (ibufInput s) = s.arg → exec .crcchk s =
    .next { s with res := s.arg, v := true, rc := .ok, busy := false, draws := s.draws + s.ilen.toNat }) ∧
  (∀ s : State, s.ilen.toNat ≤ 260 → crc16 (ibufInput s) ≠ s.arg → exec .crcchk s =
    .next { s with
      res := crc16 (ibufInput s), v := false, rc := .integrityMismatch, busy := false, draws := s.draws + s.ilen.toNat })

/-- R126: SUMGEN, its word, both outcomes, and its example. -/
def Obligations.SumgenWritesTheChecksum : Prop :=
  encode .sumgen = 0x0012#16 ∧
  (∀ s : State, 260 < s.ilen.toNat → exec .sumgen s = .next { s with rc := .lengthError, busy := false }) ∧
  (∀ s : State, s.ilen.toNat ≤ 260 → exec .sumgen s =
    .next { s with
      res := BitVec.ofNat 16 ((256 - sumBytes (ibufInput s) % 256) % 256), rc := .ok, busy := false
      draws := s.draws + s.ilen.toNat }) ∧
  checksum8 [40, 0, 1, 159] = 56#8

/-- R127: SUMCHK, its word and its outcomes: V is 1 exactly when both tests pass, equality and zero sum; ARG[15:8] is ignored. -/
def Obligations.SumchkMakesBothTests : Prop :=
  encode .sumchk = 0x0013#16 ∧
  (∀ s : State, 260 < s.ilen.toNat → exec .sumchk s = .next { s with rc := .lengthError, busy := false }) ∧
  (∀ (s : State) (received : Byte), s.ilen.toNat ≤ 260 → received = s.arg.extractLsb' 0 8 →
    (checksum8 (ibufInput s) = received ∧ (sumBytes (ibufInput s) + received.toNat) % 256 = 0 → exec .sumchk s =
      .next { s with
        res := (checksum8 (ibufInput s)).setWidth 16, v := true, rc := .ok, busy := false
        draws := s.draws + s.ilen.toNat }) ∧
    (¬ (checksum8 (ibufInput s) = received ∧ (sumBytes (ibufInput s) + received.toNat) % 256 = 0) → exec .sumchk s =
      .next { s with
        res := (checksum8 (ibufInput s)).setWidth 16, v := false, rc := .integrityMismatch, busy := false
        draws := s.draws + s.ilen.toNat }))

/-! Frame Builder and Parser (42_frame_codec.md) -/

/-- R141, R143: the bytes of a sealed frame in each mode, index by index, and their number. -/
def Obligations.SealedFramesHaveTheirLayout : Prop :=
  ∀ (a h : Byte) (p : List Byte),
    let len := BitVec.ofNat 8 p.length
    let c := crc16 ([a, len, h] ++ p)
    let f := [a, len, 1#8, h] ++ p
    sealFrame .crc16 a h p = [a, len, c.extractLsb' 0 8, h] ++ p ++ [c.extractLsb' 8 8] ∧
    sealFrame .sum8 a h p = f ++ [checksum8 f] ∧
    ∀ m : IntegrityMode, (sealFrame m a h p).length = p.length + 5

/-- R152, the round trip: parsing a sealed frame gives back the base frame, valid and not malformed, in both modes. -/
def Obligations.UnsealUndoesSeal : Prop :=
  ∀ (m : IntegrityMode) (a h : Byte) (p : List Byte), p.length ≤ 255 →
    unsealFrame m (sealFrame m a h p) =
      { stripped := [a, BitVec.ofNat 8 p.length, h] ++ p, valid := true, malformed := false }

/-- R153: every sealed checksum-mode frame sums to 0 modulo 256. -/
def Obligations.SealedChecksumFramesSumToZero : Prop :=
  ∀ (a h : Byte) (p : List Byte), sumBytes (sealFrame .sum8 a h p) % 256 = 0

/-- R147, R148, R149: the parser on every input: too short, or stripped of its last byte and (from four bytes in checksum mode) of
its byte at index 2, with the verdict its mode gives. -/
def Obligations.UnsealFollowsTheParserRules : Prop :=
  (∀ r : List Byte, r.length < 5 → unsealFrame .crc16 r = { stripped := r, valid := false, malformed := true }) ∧
  (∀ (x0 x1 x2 z : Byte) (mid : List Byte), mid ≠ [] → unsealFrame .crc16 (x0 :: x1 :: x2 :: (mid ++ [z])) =
    { stripped := x0 :: x1 :: mid, valid := decide (crc16 (x0 :: x1 :: mid) = z ++ x2), malformed := false }) ∧
  (∀ r : List Byte, r.length < 2 → unsealFrame .sum8 r = { stripped := r, valid := false, malformed := true }) ∧
  (∀ x0 z : Byte, unsealFrame .sum8 [x0, z] =
    { stripped := [x0], valid := decide (checksum8 [x0] = z ∧ (sumBytes [x0] + z.toNat) % 256 = 0), malformed := false }) ∧
  (∀ x0 x1 z : Byte, unsealFrame .sum8 [x0, x1, z] =
    { stripped := [x0, x1], valid := decide (checksum8 [x0, x1] = z ∧ (sumBytes [x0, x1] + z.toNat) % 256 = 0)
      malformed := false }) ∧
  (∀ (x0 x1 x2 z : Byte) (mid : List Byte), unsealFrame .sum8 (x0 :: x1 :: x2 :: (mid ++ [z])) =
    { stripped := x0 :: x1 :: mid
      valid := decide (checksum8 (x0 :: x1 :: x2 :: mid) = z ∧ (sumBytes (x0 :: x1 :: x2 :: mid) + z.toNat) % 256 = 0)
      malformed := false })

/-- R287: an all-zero frame of any length from 5 up passes the CRC test. -/
def Obligations.AllZeroFramesPassTheCrc : Prop :=
  ∀ n, 5 ≤ n → (unsealFrame .crc16 (List.replicate n 0#8)).valid = true

/-- R144: SEAL, its word, the order of its tests, and the frame in OBUF; the bytes of OBUF beyond the frame have no value. -/
def Obligations.SealPutsTheFrameInObuf : Prop :=
  encode .sealCmd = 0x0020#16 ∧
  (∀ s : State, s.mode = 0#2 ∨ s.mode = 3#2 → exec .sealCmd s = .next { s with rc := .configError, busy := false }) ∧
  (∀ s : State, s.mode = 1#2 ∨ s.mode = 2#2 → 255 < s.ilen.toNat →
    exec .sealCmd s = .next { s with rc := .lengthError, busy := false }) ∧
  (∀ s : State, s.mode = 1#2 ∨ s.mode = 2#2 → s.ilen.toNat ≤ 255 →
    let f := sealFrame (if s.mode = 1#2 then .crc16 else .sum8) s.addr s.hdr (ibufInput s)
    ∃ m : Memory, exec .sealCmd s =
        .next { s with
          obuf := m, olen := BitVec.ofNat 9 (s.ilen.toNat + 5), rc := .ok, busy := false
          draws := s.draws + s.ilen.toNat } ∧
      ∀ i, Memory.get? m i = f[i]?) ∧
  sealFrame .crc16 1 0 [31, 0] = [1, 2, 0x74, 0, 31, 0, 0x54] ∧ sealFrame .sum8 1 0 [31, 0] = [1, 2, 1, 0, 31, 0, 0xDD]

/-- R150: UNSEAL, its word, the order of its tests, and the stripped frame in OBUF with its verdict; the bytes of OBUF beyond it
have no value. -/
def Obligations.UnsealPutsTheStrippedFrameInObuf : Prop :=
  encode .unsealCmd = 0x0021#16 ∧
  (∀ s : State, s.mode = 0#2 ∨ s.mode = 3#2 → exec .unsealCmd s = .next { s with rc := .configError, busy := false }) ∧
  (∀ s : State, s.mode = 1#2 ∨ s.mode = 2#2 → 260 < s.ilen.toNat →
    exec .unsealCmd s = .next { s with rc := .lengthError, busy := false }) ∧
  (∀ s : State, s.mode = 1#2 ∨ s.mode = 2#2 → s.ilen.toNat ≤ 260 →
    let u := unsealFrame (if s.mode = 1#2 then .crc16 else .sum8) (ibufInput s)
    ∃ m : Memory, exec .unsealCmd s =
        .next { s with
          obuf := m, olen := BitVec.ofNat 9 u.stripped.length, v := u.valid
          rc := if u.malformed then .malformed else if u.valid then .ok else .integrityMismatch
          busy := false, draws := s.draws + s.ilen.toNat } ∧
      ∀ i, Memory.get? m i = u.stripped[i]?) ∧
  unsealFrame .crc16 [1, 2, 0x74, 0, 31, 0, 0x54] = { stripped := [1, 2, 0, 31, 0], valid := true, malformed := false }

/-! Transport Session (43_transport_session.md) -/

/-- R161: OPEN, its word, and both outcomes; a failed OPEN closes the session and keeps SADDR, SMODE, STMO. -/
def Obligations.OpenConstructsTheSession : Prop :=
  encode .openCmd = 0x0030#16 ∧
  (∀ s : State, s.mode = 0#2 ∨ s.mode = 3#2 ∨ s.addr = 0#8 →
    exec .openCmd s = .next { s with sess := .closed, rc := .configError, busy := false }) ∧
  (∀ s : State, s.mode = 1#2 ∨ s.mode = 2#2 → s.addr ≠ 0#8 →
    exec .openCmd s =
      .next { s with saddr := s.addr, smode := s.mode, stmo := s.tmo, sess := .idle, rc := .ok, busy := false })

/-- R170, R173: an exchange is NO_RESPONSE exactly when the length read, the body read or the byte count says so; its echo count
is the echo read's length. -/
def Obligations.NoResponseHasThreeCauses : Prop :=
  ∀ (a : Byte) (m : IntegrityMode) (t : Word) (h : Byte) (p : List Byte) (l : SerLine),
    let f := sealFrame m a h p
    let e := serRead f.length t (serWrite f (serFlush l))
    let hd := serRead 2 t e.line
    let x := exchange a m t h p l
    x.echo = e.bytes.length ∧
    (x.response = none ↔
      hd.bytes.length < 2 ∨
      ∃ n : Byte, hd.bytes[1]? = some n ∧
        ((serRead (n.toNat + 3) t hd.line).bytes.length < n.toNat + 3 ∨ e.bytes.length + n.toNat + 5 ≤ f.length))

/-- R174, R176: what a response is made of: the frame is the two length bytes and n + 3 more, RADDR its byte 0, RHDR its byte 3,
the payload its next n bytes, the verdict the parser's. -/
def Obligations.ResponseIsCutFromTheFrame : Prop :=
  ∀ (a : Byte) (m : IntegrityMode) (t : Word) (h : Byte) (p : List Byte) (l : SerLine) (r : Response),
    (exchange a m t h p l).response = some r →
    let f := sealFrame m a h p
    let hd := serRead 2 t (serRead f.length t (serWrite f (serFlush l))).line
    ∃ n x2 z : Byte,
      hd.bytes = [r.raddr, n] ∧ r.payload.length = n.toNat ∧
      (serRead (n.toNat + 3) t hd.line).bytes = [x2, r.rhdr] ++ r.payload ++ [z] ∧
      r.valid = (unsealFrame m ([r.raddr, n, x2, r.rhdr] ++ r.payload ++ [z])).valid

/-- R177: the SER transactions of one exchange, in order, and nothing else; and what is left on the port is what the last of its
reads left. -/
def Obligations.ExchangeHasItsSerTrace : Prop :=
  ∀ (a : Byte) (m : IntegrityMode) (t : Word) (h : Byte) (p : List Byte) (l : SerLine),
    let f := sealFrame m a h p
    let hd := serRead 2 t (serRead f.length t (serWrite f (serFlush l))).line
    (exchange a m t h p l).line.trace = l.trace ++ [.flush, .write f, .read f.length t, .read 2 t] ++
      (match hd.bytes[1]? with
       | some n => [.read (n.toNat + 3) t]
       | none => []) ∧
    (exchange a m t h p l).line =
      (match hd.bytes[1]? with
       | some n => (serRead (n.toNat + 3) t hd.line).line
       | none => hd.line)

/-- R171: XCHG, its word, the order of its tests, and the registers a NO_RESPONSE and a response leave. -/
def Obligations.XchgRecordsTheExchange : Prop :=
  encode .xchg = 0x0031#16 ∧
  (∀ s : State, s.sess = .closed → exec .xchg s = .next { s with rc := .notOpen, busy := false }) ∧
  (∀ s : State, s.sess = .idle → 255 < s.ilen.toNat → exec .xchg s = .next { s with rc := .lengthError, busy := false }) ∧
  (∀ (s : State) (x : Exchange), s.sess = .idle → s.ilen.toNat ≤ 255 →
    x = exchange s.saddr (if s.smode = 1#2 then .crc16 else .sum8) s.stmo s.hdr (ibufInput s) s.ser →
    (x.response = none → exec .xchg s =
      .next { s with
        ser := x.line, ecnt := BitVec.ofNat 9 x.echo, w := decide (x.echo = 0)
        raddr := 0#8, rhdr := 0#8, obuf := [], olen := 0#9, v := false
        rc := .noResponse, busy := false, draws := s.draws + s.ilen.toNat }) ∧
    (∀ r : Response, x.response = some r → ∃ m : Memory,
      exec .xchg s = .next { s with
        ser := x.line, ecnt := BitVec.ofNat 9 x.echo, w := decide (x.echo = 0)
        raddr := r.raddr, rhdr := r.rhdr, obuf := m, olen := BitVec.ofNat 9 r.payload.length, v := r.valid
        rc := if r.valid then .ok else .integrityMismatch, busy := false, draws := s.draws + s.ilen.toNat } ∧
      ∀ i, Memory.get? m i = r.payload[i]?))

/-! Event Decoders (44_event_decoders.md) -/

/-- R190: the counter and the five pairs read from any payload. -/
def Obligations.PairsAreReadWholeOrAsZero : Prop :=
  ∀ q : List Byte,
    (q = [] → eventCounter q = 0#8) ∧ (∀ c : Byte, q[0]? = some c → eventCounter q = c) ∧
    ∀ k, 1 ≤ k → k ≤ 5 →
      (2 * k + 1 ≤ q.length → q[2 * k - 1]? = some (eventPair q k).1 ∧ q[2 * k]? = some (eventPair q k).2) ∧
      (q.length < 2 * k + 1 → eventPair q k = (0#8, 0#8))

/-- R194: the bill partition, all 256 codes. -/
def Obligations.BillCodesArePartitioned : Prop :=
  ∀ c : Byte,
    (c.toNat ∈ [0, 1, 4, 5, 10, 11, 12, 14, 20, 21] → billCat c = .status) ∧
    (c.toNat ∈ [2, 3] → billCat c = .reject) ∧
    (c.toNat ∈ [6, 7, 13, 15, 16, 19] → billCat c = .fatalError) ∧
    (c.toNat ∈ [8, 9, 17, 18] ∨ 22 ≤ c.toNat → billCat c = .fraudAttempt)

/-- R193, R195: the classification of a pair, bill and coin, with the category of each kind of code (R194), the coin partition being the OPEN `COIN_CAT`, whatever it is; R191,
R192: the codes of CAT and ROUTE, the category strings, and that no decoder produces NONE; R199: the one text it fixes, as the
model composes it (log entry 7). -/
def Obligations.PairsAreClassified : Prop :=
  (∀ b : Byte, classifyBill 0#8 b = (codeCategory (billCat b), .na) ∧
    classifyCoin 0#8 b = (codeCategory (Config.coinCat b), .na)) ∧
  (∀ a b : Byte, a ≠ 0#8 →
    classifyBill a b = (.credit, if b = 0#8 then .cashbox else if b = 1#8 then .escrow else .unknown) ∧
    classifyCoin a b = (.credit, .na)) ∧
  [CodeCategory.status, .reject, .fatalError, .fraudAttempt].map codeCategory =
    [Category.status, .reject, .fatalError, .fraudAttempt] ∧
  [Category.none, .credit, .status, .reject, .fatalError, .fraudAttempt].map Category.code =
    [0#3, 1#3, 2#3, 3#3, 4#3, 5#3] ∧
  [Category.credit, .status, .reject, .fatalError, .fraudAttempt].map Category.text =
    ["Credit", "Status", "Reject", "Fatal Error", "Fraud Attempt"] ∧
  (∀ a b : Byte, (classifyBill a b).1 ≠ .none ∧ (classifyCoin a b).1 ≠ .none) ∧
  [Route.na, .cashbox, .escrow, .unknown].map Route.code = [0#2, 1#2, 2#2, 3#2] ∧
  eventText .bill { cat := .status, ra := 0#8, rb := 0#8, route := .na } = "Status: Master inhibit active"

/-- R196: DECBILL, its words, its length error, and the five records it writes, from IBUF (S = 0) or OBUF (S = 1). -/
def Obligations.DecbillWritesFiveRecords : Prop :=
  encode (.decbill .ibuf) = 0x0040#16 ∧ encode (.decbill .obuf) = 0x0140#16 ∧
  (∀ s : State, 260 < s.ilen.toNat → exec (.decbill .ibuf) s = .next { s with rc := .lengthError, busy := false }) ∧
  ∀ (s : State) (src : Source) (q : List Byte) (n : Nat),
    (src = .ibuf ∧ s.ilen.toNat ≤ 260 ∧ q = ibufInput s ∧ n = s.ilen.toNat) ∨
      (src = .obuf ∧ q = obufInput s ∧ n = s.olen.toNat) →
    ∃ ev : Vector EventRecord 5, exec (.decbill src) s =
        .next { s with
          evcnt := eventCounter q, evkind := .bill, evt := ev, rc := .ok, busy := false, draws := s.draws + n } ∧
      ∀ k : Fin 5, ∃ a b : Byte, (a, b) = eventPair q (k.val + 1) ∧ (ev[k]).ra = a ∧ (ev[k]).rb = b ∧
        ((ev[k]).cat, (ev[k]).route) = classifyBill a b

/-- R197: DECCOIN, its words, its length error, and the five records it writes, from IBUF (S = 0) or OBUF (S = 1). -/
def Obligations.DeccoinWritesFiveRecords : Prop :=
  encode (.deccoin .ibuf) = 0x0041#16 ∧ encode (.deccoin .obuf) = 0x0141#16 ∧
  (∀ s : State, 260 < s.ilen.toNat → exec (.deccoin .ibuf) s = .next { s with rc := .lengthError, busy := false }) ∧
  ∀ (s : State) (src : Source) (q : List Byte) (n : Nat),
    (src = .ibuf ∧ s.ilen.toNat ≤ 260 ∧ q = ibufInput s ∧ n = s.ilen.toNat) ∨
      (src = .obuf ∧ q = obufInput s ∧ n = s.olen.toNat) →
    ∃ ev : Vector EventRecord 5, exec (.deccoin src) s =
        .next { s with
          evcnt := eventCounter q, evkind := .coin, evt := ev, rc := .ok, busy := false, draws := s.draws + n } ∧
      ∀ k : Fin 5, ∃ a b : Byte, (a, b) = eventPair q (k.val + 1) ∧ (ev[k]).ra = a ∧ (ev[k]).rb = b ∧
        ((ev[k]).cat, (ev[k]).route) = classifyCoin a b

/-- R198, R250: DECODE, its words: HDR = 159 executes as DECBILL, HDR = 229 as DECCOIN, each with the same S; any other HDR only
sets NOT_EVENT, before any length test. The last clause names, on inputs of legal length, the state each of the two reaches. -/
def Obligations.DecodeSelectsByHeader : Prop :=
  encode (.decode .ibuf) = 0x0042#16 ∧ encode (.decode .obuf) = 0x0142#16 ∧
  (∀ (s : State) (src : Source), s.hdr = 159#8 → exec (.decode src) s = exec (.decbill src) s) ∧
  (∀ (s : State) (src : Source), s.hdr = 229#8 → exec (.decode src) s = exec (.deccoin src) s) ∧
  (∀ (s : State) (src : Source), s.hdr ≠ 159#8 → s.hdr ≠ 229#8 →
    exec (.decode src) s = .next { s with rc := .notEvent, busy := false }) ∧
  ∀ (s : State) (src : Source), s.hdr = 159#8 ∨ s.hdr = 229#8 → src = .obuf ∨ s.ilen.toNat ≤ 260 →
    ∃ t : State, exec (.decode src) s = .next t ∧ t.rc = .ok ∧ t.evkind = (if s.hdr = 159#8 then .bill else .coin) ∧
      t.evcnt = eventCounter (if src = .obuf then obufInput s else ibufInput s)

/-! Scanner (45_scanner.md) -/

/-- R220: the probe sequence: its 510 probes in order, each address 1..255 in each mode exactly once, address 0 never. -/
def Obligations.ProbeSequenceCoversTheBus : Prop :=
  (∀ i, i < 255 → ∀ n, (i = 0 → n = 40) → (i = 1 → n = 2) → (i = 2 → n = 1) → (3 ≤ i → i ≤ 39 → n = i) →
    (40 ≤ i → n = i + 1) →
    scanAddress (2 * i) = BitVec.ofNat 8 n ∧ scanMode (2 * i) = .crc16 ∧
    scanAddress (2 * i + 1) = BitVec.ofNat 8 n ∧ scanMode (2 * i + 1) = .sum8) ∧
  (∀ (a : Byte) (m : IntegrityMode), a ≠ 0#8 → ∃ j, j < 510 ∧ scanAddress j = a ∧ scanMode j = m ∧
    ∀ j', j' < 510 → scanAddress j' = a → scanMode j' = m → j' = j) ∧
  ∀ j, j < 510 → scanAddress j ≠ 0#8

/-- R222, R224: SCAN, its word, and what it does when it is issued: refused without a session; ended at once, session restored,
by a CANCEL already set; else the sweep is under way with BUSY = 1. The last two rest on log entry 8 for where the sweep's start
ends. -/
def Obligations.ScanStartsTheSweep : Prop :=
  encode .scan = 0x0050#16 ∧
  (∀ s : State, s.sess = .closed → exec .scan s = .next { s with rc := .notOpen, busy := false }) ∧
  (∀ s : State, s.sess = .idle → s.cancel = true → exec .scan s =
    .next { s with
      saveAddr := s.saddr, saveMode := s.smode, saveTmo := s.stmo, devtab := [], devn := 0#10, scanpos := 0#10
      cancel := false, raddr := 0#8, rhdr := 0#8, obuf := [], olen := 0#9, ecnt := 0#9, v := false, w := false
      rc := .cancelled, busy := false }) ∧
  (∀ s : State, s.sess = .idle → s.cancel = false → exec .scan s =
    .next { s with
      saveAddr := s.saddr, saveMode := s.smode, saveTmo := s.stmo, devtab := [], devn := 0#10, scanpos := 0#10
      stmo := s.scantmo, busy := true })

/-- A step in which the Host leaves the block alone, by having nothing pending or by a pause. R22, R254: an idle block stays as it
was. R222, R224 to R226: a running SCAN makes one step: complete after probe 509, or stop on CANCEL, in both cases with the session
restored and the results cleared; else probe SCANPOS, recording the device exactly when the simple poll got a response. Where a
pause falls, and one probe a step, are the model's choices (log entries 1 and 8). -/
def Obligations.ScanStepProbesOrEnds : Prop :=
  ∀ (s : State) (rest : List HostEvent), (s.host = [] ∧ rest = []) ∨ s.host = .pause :: rest →
    (s.busy = false → step s = .next { s with host := rest }) ∧
    (s.busy = true → 510 ≤ s.scanpos.toNat ∨ s.cancel = true → step s =
      .next { s with
        host := rest, saddr := s.saveAddr, smode := s.saveMode, stmo := s.saveTmo
        cancel := false, raddr := 0#8, rhdr := 0#8, obuf := [], olen := 0#9, ecnt := 0#9, v := false, w := false
        rc := if 510 ≤ s.scanpos.toNat then .ok else .cancelled, busy := false }) ∧
    (s.busy = true → s.scanpos.toNat < 510 → s.cancel = false →
      ∀ (a : Byte) (m : IntegrityMode) (x y : Exchange),
        a = scanAddress s.scanpos.toNat → m = scanMode s.scanpos.toNat →
        x = exchange a m s.stmo Config.simplePollHdr [] s.ser → y = exchange a m s.stmo Config.manufIdHdr [] x.line →
        (x.response = none → step s =
          .next { s with
            host := rest, saddr := a, smode := if m = .crc16 then 1#2 else 2#2, ser := x.line
            scanpos := s.scanpos + 1#10 }) ∧
        (x.response ≠ none → ∃ name : List Byte, step s =
            .next { s with
              host := rest, saddr := a, smode := if m = .crc16 then 1#2 else 2#2, ser := y.line
              devtab := s.devtab ++ [{ address := a, mode := m, name := name }], devn := s.devn + 1#10
              scanpos := s.scanpos + 1#10 } ∧
          (y.response = none → name = []) ∧ ∀ r : Response, y.response = some r → name = r.payload))

/-- R223: the session's address, mode and timeout after a SCAN are those before it, however the Host's accesses fall between the
probes and whether the sweep ended by itself or by CANCEL. That accesses fall between the model's steps and not inside a probe is
the model's choice (log entries 1 and 8). -/
def Obligations.ScanRestoresTheSession : Prop :=
  ∀ (s s0 t : State) (n : Nat), s.sess = .idle → exec .scan s = .next s0 → (∀ e ∈ s.host, e.keepsRunning = true) →
    (∀ k, k < n → ∀ u : State, Host.Core.run Sys2Proof.core k s0 = .next u → u.busy = true) →
    Host.Core.run Sys2Proof.core n s0 = .next t → t.busy = false →
    t.saddr = s.saddr ∧ t.smode = s.smode ∧ t.stmo = s.stmo ∧ t.sess = .idle

/-- R222, R89: a running SCAN that the Host leaves alone ends within 511 steps, OK or CANCELLED. The count of steps is the
model's (log entry 8). -/
def Obligations.ScanEndsWithin511Steps : Prop :=
  ∀ s : State, s.busy = true → s.host = [] →
    ∃ (n : Nat) (t : State), n ≤ 511 ∧ Host.Core.run Sys2Proof.core n s = .next t ∧ t.busy = false ∧
      (t.rc = .ok ∨ t.rc = .cancelled)

/-- R222: from the CMD write of SCAN, a sweep the Host leaves alone is the rule's loop: 512 steps (the start, 510 probes, the end)
give the device table and SER port of the loop over the whole probe sequence, DEVN its length, SCANPOS 510, the session restored,
and the result registers cleared. The count of steps is the model's (log entry 8). -/
def Obligations.UndisturbedScanIsTheSweepLoop : Prop :=
  ∀ s : State, s.sess = .idle → s.busy = false → s.cancel = false → s.host = [.write 0x000#11 0x0050#16] →
    Host.Core.run Sys2Proof.core 512 s =
      .next { s with
        host := []
        ser := (sweepAll s.scantmo s.ser).line
        devtab := (sweepAll s.scantmo s.ser).found
        devn := BitVec.ofNat 10 (sweepAll s.scantmo s.ser).found.length
        scanpos := 510#10
        saveAddr := s.saddr, saveMode := s.smode, saveTmo := s.stmo
        cancel := false, raddr := 0#8, rhdr := 0#8, obuf := [], olen := 0#9, ecnt := 0#9, v := false, w := false
        rc := .ok }

/-- R226: the entries of DEVTAB are in probe order, at most one per probe made, at every step from any state where they are. -/
def Obligations.DeviceTableKeepsProbeOrder : Prop :=
  ProbeOrder State.reset ∧ ∀ s t : State, ProbeOrder s → step s = .next t → ProbeOrder t

/-! Whole-machine rules -/

/-- R21, R43 and the "Flags written" of every command's rule: a command leaves unchanged every register, flag, buffer byte, EVT
record, DEVTAB, SER port and hidden register that is not among its outputs (`commandWrites`). -/
def Obligations.CommandsWriteOnlyTheirOutputs : Prop :=
  ∀ (i : Instr) (s t : State) (f : Field), exec i s = .next t → f ∉ commandWrites i → sameField s t f

/-- R222, R223: the steps of a running SCAN leave unchanged everything that is not among SCAN's outputs, and the session stays
open; while the sweep goes on, the saved session stays as it was saved. -/
def Obligations.ScanStepsWriteOnlyScanOutputs : Prop :=
  ∀ (s t : State), s.busy = true → s.host = [] → step s = .next t →
    (∀ f : Field, f ∉ scanWrites → sameField s t f) ∧
    t.saveAddr = s.saveAddr ∧ t.saveMode = s.saveMode ∧ t.saveTmo = s.saveTmo ∧ t.sess = s.sess

/-- R247: a command that completes with NOT_OPEN, LENGTH_ERROR or NOT_EVENT, or with CONFIG_ERROR from SEAL or UNSEAL, has changed
nothing except RC; a failed OPEN has changed RC and SESS (OPENED). BUSY is 0 at every completion. -/
def Obligations.RefusedCommandsChangeOnlyRc : Prop :=
  ∀ (i : Instr) (s t : State), exec i s = .next t → t.busy = false →
    (t.rc = .notOpen ∨ t.rc = .lengthError ∨ t.rc = .notEvent ∨ (t.rc = .configError ∧ i ≠ .openCmd) →
      t = { s with rc := t.rc, busy := false }) ∧
    (t.rc = .configError → i = .openCmd → t = { s with rc := .configError, sess := .closed, busy := false })

/-- R240, column "raised by": the result codes each command can complete with. XCHG never completes with MALFORMED (R171). -/
def Obligations.CommandsCompleteWithTheirCodes : Prop :=
  ∀ (i : Instr) (s t : State), exec i s = .next t → t.busy = false → t.rc ∈ commandCodes i

/-- R48: "Only OPEN and reset change SESS between CLOSED and IDLE." -/
def Obligations.OnlyOpenAndResetChangeTheSession : Prop :=
  ∀ (s t : State), step s = .next t → t.sess ≠ s.sess →
    (∃ (rest : List HostEvent), s.host = .reset :: rest) ∨
    (∃ (w : Word) (cut : Nat) (rest : List HostEvent), s.host = .resetDuring w cut :: rest) ∨
    (s.busy = false ∧ ∃ rest : List HostEvent, s.host = .write 0x000#11 0x0030#16 :: rest)

/-- U5: the hidden SAVE registers are never read before SCAN writes them: of two states that differ only in them while BUSY = 0,
a step gives two states that again differ only in them. Their reset value (log entry 5, DESIGN CHOICE) is therefore seen by
nothing. -/
def Obligations.SaveRegistersAreNotReadWhileIdle : Prop :=
  ∀ (s t : State) (a : Byte) (m : BitVec 2) (x : Word), s.busy = false → step s = .next t →
    ∃ (a' : Byte) (m' : BitVec 2) (x' : Word),
      step { s with saveAddr := a, saveMode := m, saveTmo := x } =
        .next { t with saveAddr := a', saveMode := m', saveTmo := x' } ∧
      (t.busy = true → a' = t.saveAddr ∧ m' = t.saveMode ∧ x' = t.saveTmo)

/-- The invariant holds at reset. -/
def Obligations.InvariantHoldsAtReset : Prop := State.Inv State.reset

/-- Every step keeps the invariant: buffers in form and OBUF valid exactly below OLEN (R44), OPENED only with a valid session
(R171), a running SCAN able to restore one (R223), DEVN the length of DEVTAB and at most SCANPOS and 510 (R47, R226), names and
addresses in range, and EVT records only of the kinds their decoder writes (R191, R192, R195). -/
def Obligations.EveryStepKeepsTheInvariant : Prop :=
  ∀ s t : State, State.Inv s → step s = .next t → State.Inv t

/-! The SER port (20_memory.md R86 to R89) -/

/-- R86, R88, R89: a read returns at most the bytes asked for and takes the Peer's next answer, or a free one where none is listed;
every transaction is recorded; a flush and a write do nothing else. That the Peer is a list of answers is the model's (log entry
3). -/
def Obligations.SerReadTakesTheNextAnswer : Prop :=
  (∀ l : SerLine, serFlush l = { l with trace := l.trace ++ [.flush] }) ∧
  (∀ (bytes : List Byte) (l : SerLine), serWrite bytes l = { l with trace := l.trace ++ [.write bytes] }) ∧
  ∀ (n : Nat) (t : Word) (l : SerLine),
    (serRead n t l).bytes.length ≤ n ∧
    (∀ (r : List Byte) (rest : List (List Byte)), l.answers = r :: rest →
      serRead n t l = { bytes := r.take n, line := { l with answers := rest, trace := l.trace ++ [.read n t] } }) ∧
    (l.answers = [] → serRead n t l =
      { bytes := (Config.freeSerRead l.draws).take n
        line := { l with trace := l.trace ++ [.read n t], draws := l.draws + 1 } })
end

