-- ==== Sys2Proof/Laws/Exchange.lean ====
section
/-! SUPPORT. Frames and the SER port: lengths, and what one read, one parse and one exchange can do. -/

namespace Sys2Proof.Machine

/-! Frames -/

@[simp] theorem length_baseFrame (a h : Byte) (p : List Byte) : (baseFrame a h p).length = p.length + 3 := by
  simp [baseFrame]

theorem length_insertAt (s : List Byte) (i : Nat) (b : Byte) : (insertAt s i b).length = s.length + 1 := by
  simp only [insertAt, List.length_append, List.length_take, List.length_drop, List.length_singleton]
  omega

theorem length_removeAt (s : List Byte) (i : Nat) (hi : i < s.length) : (removeAt s i).length + 1 = s.length := by
  simp only [removeAt, List.length_append, List.length_take, List.length_drop]
  omega

/-- Both modes add five bytes to the payload. -/
@[simp] theorem length_sealFrame (m : IntegrityMode) (a h : Byte) (p : List Byte) :
    (sealFrame m a h p).length = p.length + 5 := by
  cases m <;> simp [sealFrame, length_insertAt]

/-- A parsed frame never grows. -/
theorem length_stripped_le (m : IntegrityMode) (r : List Byte) : (unsealFrame m r).stripped.length ≤ r.length := by
  have hrem : ∀ s : List Byte, (removeAt s 2).length ≤ s.length := by
    intro s
    simp only [removeAt, List.length_append, List.length_take, List.length_drop]
    omega
  have hd : r.dropLast.length ≤ r.length := by simp
  cases m with
  | crc16 =>
    simp only [unsealFrame]
    split
    · simp [Unsealed.tooShort]
    · exact (hrem r.dropLast).trans hd
  | sum8 =>
    simp only [unsealFrame]
    split
    · simp [Unsealed.tooShort]
    · simp only [unsealSum]
      split
      · exact (hrem r.dropLast).trans hd
      · exact hd

/-- A frame of at least five bytes is stripped of its last byte and of its byte at index 2, in both modes. -/
theorem unsealFrame_stripped (m : IntegrityMode) (x0 x1 x2 x3 z : Byte) (p : List Byte) :
    (unsealFrame m (x0 :: x1 :: x2 :: x3 :: (p ++ [z]))).stripped = x0 :: x1 :: x3 :: p := by
  have hd : (x0 :: x1 :: x2 :: x3 :: (p ++ [z])).dropLast = x0 :: x1 :: x2 :: x3 :: p := by
    rw [show x0 :: x1 :: x2 :: x3 :: (p ++ [z]) = (x0 :: x1 :: x2 :: x3 :: p) ++ [z] from rfl, List.dropLast_concat]
  have h5 : ¬ (x0 :: x1 :: x2 :: x3 :: (p ++ [z])).length < 5 := by simp
  have h2 : ¬ (x0 :: x1 :: x2 :: x3 :: (p ++ [z])).length < 2 := by simp
  cases m with
  | crc16 => simp only [unsealFrame, if_neg h5, unsealCrc, removeAt, hd]; rfl
  | sum8 => simp [unsealFrame, unsealSum, removeAt, hd]

/-! The SER port -/

theorem length_serRead_le (n : Nat) (t : Word) (l : SerLine) : (serRead n t l).bytes.length ≤ n := by
  unfold serRead
  split <;> simp

@[simp] theorem trace_serRead (n : Nat) (t : Word) (l : SerLine) :
    (serRead n t l).line.trace = l.trace ++ [.read n t] := by
  unfold serRead
  split <;> rfl

@[simp] theorem trace_serFlush (l : SerLine) : (serFlush l).trace = l.trace ++ [.flush] := rfl

@[simp] theorem trace_serWrite (b : List Byte) (l : SerLine) : (serWrite b l).trace = l.trace ++ [.write b] := rfl

/-- A listed answer is what a read gives, cut to the bytes asked for. -/
theorem serRead_of_answer (n : Nat) (t : Word) (r : List Byte) (rest : List (List Byte)) (tr : List SerOp) (d : Nat) :
    serRead n t { answers := r :: rest, trace := tr, draws := d } =
      { bytes := r.take n, line := { answers := rest, trace := tr ++ [.read n t], draws := d } } := rfl

/-! The exchange -/

/-- The echo read of an exchange (R170 steps 1 to 3). -/
def echoRead (a : Byte) (m : IntegrityMode) (t : Word) (h : Byte) (p : List Byte) (l : SerLine) : SerAnswer :=
  serRead (sealFrame m a h p).length t (serWrite (sealFrame m a h p) (serFlush l))

/-- The length-discovery read of an exchange (R170 step 4). -/
def lengthRead (a : Byte) (m : IntegrityMode) (t : Word) (h : Byte) (p : List Byte) (l : SerLine) : SerAnswer :=
  serRead 2 t (echoRead a m t h p l).line

/-- The body read of an exchange for the length byte n (R170 step 5). -/
def bodyRead (a : Byte) (m : IntegrityMode) (t : Word) (h : Byte) (p : List Byte) (l : SerLine) (n : Byte) : SerAnswer :=
  serRead (n.toNat + 3) t (lengthRead a m t h p l).line

/-- Everything an exchange can do: the length read is short; or the body read is short; or both are complete and the frame is
parsed. -/
theorem exchange_cases (a : Byte) (m : IntegrityMode) (t : Word) (h : Byte) (p : List Byte) (l : SerLine) :
    ((lengthRead a m t h p l).bytes.length < 2 ∧ exchange a m t h p l =
      { response := none, echo := (echoRead a m t h p l).bytes.length, line := (lengthRead a m t h p l).line }) ∨
    ∃ r0 n : Byte, (lengthRead a m t h p l).bytes = [r0, n] ∧
      (((bodyRead a m t h p l n).bytes.length < n.toNat + 3 ∧ exchange a m t h p l =
          { response := none, echo := (echoRead a m t h p l).bytes.length, line := (bodyRead a m t h p l n).line }) ∨
        ((bodyRead a m t h p l n).bytes.length = n.toNat + 3 ∧ exchange a m t h p l =
          { response := parseResponse m (sealFrame m a h p).length (echoRead a m t h p l).bytes.length n.toNat
              ([r0, n] ++ (bodyRead a m t h p l n).bytes)
            echo := (echoRead a m t h p l).bytes.length
            line := (bodyRead a m t h p l n).line })) := by
  have hle : (lengthRead a m t h p l).bytes.length ≤ 2 := length_serRead_le 2 t _
  have hx : exchange a m t h p l = (match (lengthRead a m t h p l).bytes with
      | _ :: n :: _ =>
        if (bodyRead a m t h p l n).bytes.length < n.toNat + 3 then
          { response := none, echo := (echoRead a m t h p l).bytes.length, line := (bodyRead a m t h p l n).line }
        else
          { response := parseResponse m (sealFrame m a h p).length (echoRead a m t h p l).bytes.length n.toNat
              ((lengthRead a m t h p l).bytes ++ (bodyRead a m t h p l n).bytes)
            echo := (echoRead a m t h p l).bytes.length
            line := (bodyRead a m t h p l n).line }
      | _ =>
        { response := none, echo := (echoRead a m t h p l).bytes.length, line := (lengthRead a m t h p l).line }) := rfl
  rcases hb : (lengthRead a m t h p l).bytes with _ | ⟨r0, _ | ⟨n, _ | ⟨x, xs⟩⟩⟩
  · left; simp [hx, hb]
  · left; simp [hx, hb]
  · right
    refine ⟨r0, n, rfl, ?_⟩
    have hbl : (bodyRead a m t h p l n).bytes.length ≤ n.toNat + 3 := length_serRead_le _ t _
    by_cases hlt : (bodyRead a m t h p l n).bytes.length < n.toNat + 3
    · left; exact ⟨hlt, by simp [hx, hb, hlt]⟩
    · right; exact ⟨by omega, by simp [hx, hb, hlt]⟩
  · rw [hb] at hle; simp at hle

/-- A complete body is the byte at index 2, the header, n payload bytes and the trailing integrity byte. -/
theorem body_shape (n : Nat) (bd : List Byte) (h : bd.length = n + 3) :
    ∃ (x2 rh z : Byte) (pl : List Byte), bd = x2 :: rh :: (pl ++ [z]) ∧ pl.length = n := by
  match bd, h with
  | x2 :: rh :: rest, h =>
    simp only [List.length_cons] at h
    have hne : rest ≠ [] := by intro hr; simp [hr] at h
    refine ⟨x2, rh, rest.getLast hne, rest.dropLast, ?_, by simp; omega⟩
    rw [List.dropLast_append_getLast hne]

/-- What parsing a complete response gives (R174, step 7 of R170). -/
theorem parseResponse_complete (m : IntegrityMode) (L k n : Nat) (r0 nb x2 rh z : Byte) (pl : List Byte) :
    parseResponse m L k n ([r0, nb] ++ x2 :: rh :: (pl ++ [z])) =
      if k + 2 + (n + 3) ≤ L then none
      else some
        { raddr := r0, rhdr := rh, payload := pl
          valid := (unsealFrame m (r0 :: nb :: x2 :: rh :: (pl ++ [z]))).valid } := by
  simp only [parseResponse, List.cons_append, List.nil_append, unsealFrame_stripped]

/-- The echo count is at most the frame's length. -/
theorem exchange_echo_le (a : Byte) (m : IntegrityMode) (t : Word) (h : Byte) (p : List Byte) (l : SerLine) :
    (exchange a m t h p l).echo ≤ p.length + 5 := by
  have he : (echoRead a m t h p l).bytes.length ≤ (sealFrame m a h p).length := length_serRead_le _ t _
  rw [length_sealFrame] at he
  obtain ⟨-, hx⟩ | ⟨r0, n, -, ⟨-, hx⟩ | ⟨-, hx⟩⟩ := exchange_cases a m t h p l <;> rw [hx] <;> exact he

/-- A response's payload has at most 255 bytes. -/
theorem exchange_payload_le (a : Byte) (m : IntegrityMode) (t : Word) (h : Byte) (p : List Byte) (l : SerLine) (r : Response)
    (hr : (exchange a m t h p l).response = some r) : r.payload.length ≤ maxPayload := by
  obtain ⟨-, hx⟩ | ⟨r0, n, -, ⟨-, hx⟩ | ⟨hlen, hx⟩⟩ := exchange_cases a m t h p l
  · rw [hx] at hr; cases hr
  · rw [hx] at hr; cases hr
  · obtain ⟨x2, rh, z, pl, hbd, hpl⟩ := body_shape _ _ hlen
    rw [hx] at hr
    simp only [hbd, parseResponse_complete] at hr
    split at hr
    · cases hr
    · cases hr
      have := n.isLt
      simp only [maxPayload]
      omega

/-- An exchange only adds to the trace. -/
theorem exchange_trace_prefix (a : Byte) (m : IntegrityMode) (t : Word) (h : Byte) (p : List Byte) (l : SerLine) :
    l.trace <+: (exchange a m t h p l).line.trace := by
  obtain ⟨-, hx⟩ | ⟨r0, n, -, ⟨-, hx⟩ | ⟨-, hx⟩⟩ := exchange_cases a m t h p l <;> rw [hx] <;>
    simp [lengthRead, echoRead, bodyRead, List.append_assoc]

end Sys2Proof.Machine
end

