-- ==== Sys2Proof/Laws/State.lean ====
section
/-! SUPPORT. What each shared update does to each part of State, so that no proof unfolds a record update. -/

namespace Sys2Proof.Machine

/-! complete -/

@[simp] theorem complete_busy (rc : ResultCode) (s : State) : (complete rc s).busy = false := rfl
@[simp] theorem complete_v (rc : ResultCode) (s : State) : (complete rc s).v = s.v := rfl
@[simp] theorem complete_w (rc : ResultCode) (s : State) : (complete rc s).w = s.w := rfl
@[simp] theorem complete_rc (rc : ResultCode) (s : State) : (complete rc s).rc = rc := rfl
@[simp] theorem complete_sess (rc : ResultCode) (s : State) : (complete rc s).sess = s.sess := rfl
@[simp] theorem complete_cancel (rc : ResultCode) (s : State) : (complete rc s).cancel = s.cancel := rfl
@[simp] theorem complete_addr (rc : ResultCode) (s : State) : (complete rc s).addr = s.addr := rfl
@[simp] theorem complete_mode (rc : ResultCode) (s : State) : (complete rc s).mode = s.mode := rfl
@[simp] theorem complete_tmo (rc : ResultCode) (s : State) : (complete rc s).tmo = s.tmo := rfl
@[simp] theorem complete_scantmo (rc : ResultCode) (s : State) : (complete rc s).scantmo = s.scantmo := rfl
@[simp] theorem complete_hdr (rc : ResultCode) (s : State) : (complete rc s).hdr = s.hdr := rfl
@[simp] theorem complete_ilen (rc : ResultCode) (s : State) : (complete rc s).ilen = s.ilen := rfl
@[simp] theorem complete_arg (rc : ResultCode) (s : State) : (complete rc s).arg = s.arg := rfl
@[simp] theorem complete_res (rc : ResultCode) (s : State) : (complete rc s).res = s.res := rfl
@[simp] theorem complete_olen (rc : ResultCode) (s : State) : (complete rc s).olen = s.olen := rfl
@[simp] theorem complete_rhdr (rc : ResultCode) (s : State) : (complete rc s).rhdr = s.rhdr := rfl
@[simp] theorem complete_raddr (rc : ResultCode) (s : State) : (complete rc s).raddr = s.raddr := rfl
@[simp] theorem complete_ecnt (rc : ResultCode) (s : State) : (complete rc s).ecnt = s.ecnt := rfl
@[simp] theorem complete_evcnt (rc : ResultCode) (s : State) : (complete rc s).evcnt = s.evcnt := rfl
@[simp] theorem complete_evkind (rc : ResultCode) (s : State) : (complete rc s).evkind = s.evkind := rfl
@[simp] theorem complete_saddr (rc : ResultCode) (s : State) : (complete rc s).saddr = s.saddr := rfl
@[simp] theorem complete_smode (rc : ResultCode) (s : State) : (complete rc s).smode = s.smode := rfl
@[simp] theorem complete_stmo (rc : ResultCode) (s : State) : (complete rc s).stmo = s.stmo := rfl
@[simp] theorem complete_devn (rc : ResultCode) (s : State) : (complete rc s).devn = s.devn := rfl
@[simp] theorem complete_devsel (rc : ResultCode) (s : State) : (complete rc s).devsel = s.devsel := rfl
@[simp] theorem complete_scanpos (rc : ResultCode) (s : State) : (complete rc s).scanpos = s.scanpos := rfl
@[simp] theorem complete_saveAddr (rc : ResultCode) (s : State) : (complete rc s).saveAddr = s.saveAddr := rfl
@[simp] theorem complete_saveMode (rc : ResultCode) (s : State) : (complete rc s).saveMode = s.saveMode := rfl
@[simp] theorem complete_saveTmo (rc : ResultCode) (s : State) : (complete rc s).saveTmo = s.saveTmo := rfl
@[simp] theorem complete_ibuf (rc : ResultCode) (s : State) : (complete rc s).ibuf = s.ibuf := rfl
@[simp] theorem complete_obuf (rc : ResultCode) (s : State) : (complete rc s).obuf = s.obuf := rfl
@[simp] theorem complete_evt (rc : ResultCode) (s : State) : (complete rc s).evt = s.evt := rfl
@[simp] theorem complete_devtab (rc : ResultCode) (s : State) : (complete rc s).devtab = s.devtab := rfl
@[simp] theorem complete_ser (rc : ResultCode) (s : State) : (complete rc s).ser = s.ser := rfl
@[simp] theorem complete_host (rc : ResultCode) (s : State) : (complete rc s).host = s.host := rfl
@[simp] theorem complete_rdata (rc : ResultCode) (s : State) : (complete rc s).rdata = s.rdata := rfl
@[simp] theorem complete_draws (rc : ResultCode) (s : State) : (complete rc s).draws = s.draws := rfl

/-! drawn -/

@[simp] theorem drawn_busy (n : Nat) (s : State) : (drawn n s).busy = s.busy := rfl
@[simp] theorem drawn_v (n : Nat) (s : State) : (drawn n s).v = s.v := rfl
@[simp] theorem drawn_w (n : Nat) (s : State) : (drawn n s).w = s.w := rfl
@[simp] theorem drawn_rc (n : Nat) (s : State) : (drawn n s).rc = s.rc := rfl
@[simp] theorem drawn_sess (n : Nat) (s : State) : (drawn n s).sess = s.sess := rfl
@[simp] theorem drawn_cancel (n : Nat) (s : State) : (drawn n s).cancel = s.cancel := rfl
@[simp] theorem drawn_addr (n : Nat) (s : State) : (drawn n s).addr = s.addr := rfl
@[simp] theorem drawn_mode (n : Nat) (s : State) : (drawn n s).mode = s.mode := rfl
@[simp] theorem drawn_tmo (n : Nat) (s : State) : (drawn n s).tmo = s.tmo := rfl
@[simp] theorem drawn_scantmo (n : Nat) (s : State) : (drawn n s).scantmo = s.scantmo := rfl
@[simp] theorem drawn_hdr (n : Nat) (s : State) : (drawn n s).hdr = s.hdr := rfl
@[simp] theorem drawn_ilen (n : Nat) (s : State) : (drawn n s).ilen = s.ilen := rfl
@[simp] theorem drawn_arg (n : Nat) (s : State) : (drawn n s).arg = s.arg := rfl
@[simp] theorem drawn_res (n : Nat) (s : State) : (drawn n s).res = s.res := rfl
@[simp] theorem drawn_olen (n : Nat) (s : State) : (drawn n s).olen = s.olen := rfl
@[simp] theorem drawn_rhdr (n : Nat) (s : State) : (drawn n s).rhdr = s.rhdr := rfl
@[simp] theorem drawn_raddr (n : Nat) (s : State) : (drawn n s).raddr = s.raddr := rfl
@[simp] theorem drawn_ecnt (n : Nat) (s : State) : (drawn n s).ecnt = s.ecnt := rfl
@[simp] theorem drawn_evcnt (n : Nat) (s : State) : (drawn n s).evcnt = s.evcnt := rfl
@[simp] theorem drawn_evkind (n : Nat) (s : State) : (drawn n s).evkind = s.evkind := rfl
@[simp] theorem drawn_saddr (n : Nat) (s : State) : (drawn n s).saddr = s.saddr := rfl
@[simp] theorem drawn_smode (n : Nat) (s : State) : (drawn n s).smode = s.smode := rfl
@[simp] theorem drawn_stmo (n : Nat) (s : State) : (drawn n s).stmo = s.stmo := rfl
@[simp] theorem drawn_devn (n : Nat) (s : State) : (drawn n s).devn = s.devn := rfl
@[simp] theorem drawn_devsel (n : Nat) (s : State) : (drawn n s).devsel = s.devsel := rfl
@[simp] theorem drawn_scanpos (n : Nat) (s : State) : (drawn n s).scanpos = s.scanpos := rfl
@[simp] theorem drawn_saveAddr (n : Nat) (s : State) : (drawn n s).saveAddr = s.saveAddr := rfl
@[simp] theorem drawn_saveMode (n : Nat) (s : State) : (drawn n s).saveMode = s.saveMode := rfl
@[simp] theorem drawn_saveTmo (n : Nat) (s : State) : (drawn n s).saveTmo = s.saveTmo := rfl
@[simp] theorem drawn_ibuf (n : Nat) (s : State) : (drawn n s).ibuf = s.ibuf := rfl
@[simp] theorem drawn_obuf (n : Nat) (s : State) : (drawn n s).obuf = s.obuf := rfl
@[simp] theorem drawn_evt (n : Nat) (s : State) : (drawn n s).evt = s.evt := rfl
@[simp] theorem drawn_devtab (n : Nat) (s : State) : (drawn n s).devtab = s.devtab := rfl
@[simp] theorem drawn_ser (n : Nat) (s : State) : (drawn n s).ser = s.ser := rfl
@[simp] theorem drawn_host (n : Nat) (s : State) : (drawn n s).host = s.host := rfl
@[simp] theorem drawn_rdata (n : Nat) (s : State) : (drawn n s).rdata = s.rdata := rfl
@[simp] theorem drawn_draws (n : Nat) (s : State) : (drawn n s).draws = s.draws + n := rfl

/-! putOutput -/

@[simp] theorem putOutput_busy (b : List Byte) (s : State) : (putOutput b s).busy = s.busy := rfl
@[simp] theorem putOutput_v (b : List Byte) (s : State) : (putOutput b s).v = s.v := rfl
@[simp] theorem putOutput_w (b : List Byte) (s : State) : (putOutput b s).w = s.w := rfl
@[simp] theorem putOutput_rc (b : List Byte) (s : State) : (putOutput b s).rc = s.rc := rfl
@[simp] theorem putOutput_sess (b : List Byte) (s : State) : (putOutput b s).sess = s.sess := rfl
@[simp] theorem putOutput_cancel (b : List Byte) (s : State) : (putOutput b s).cancel = s.cancel := rfl
@[simp] theorem putOutput_addr (b : List Byte) (s : State) : (putOutput b s).addr = s.addr := rfl
@[simp] theorem putOutput_mode (b : List Byte) (s : State) : (putOutput b s).mode = s.mode := rfl
@[simp] theorem putOutput_tmo (b : List Byte) (s : State) : (putOutput b s).tmo = s.tmo := rfl
@[simp] theorem putOutput_scantmo (b : List Byte) (s : State) : (putOutput b s).scantmo = s.scantmo := rfl
@[simp] theorem putOutput_hdr (b : List Byte) (s : State) : (putOutput b s).hdr = s.hdr := rfl
@[simp] theorem putOutput_ilen (b : List Byte) (s : State) : (putOutput b s).ilen = s.ilen := rfl
@[simp] theorem putOutput_arg (b : List Byte) (s : State) : (putOutput b s).arg = s.arg := rfl
@[simp] theorem putOutput_res (b : List Byte) (s : State) : (putOutput b s).res = s.res := rfl
@[simp] theorem putOutput_olen (b : List Byte) (s : State) : (putOutput b s).olen = BitVec.ofNat 9 b.length := rfl
@[simp] theorem putOutput_rhdr (b : List Byte) (s : State) : (putOutput b s).rhdr = s.rhdr := rfl
@[simp] theorem putOutput_raddr (b : List Byte) (s : State) : (putOutput b s).raddr = s.raddr := rfl
@[simp] theorem putOutput_ecnt (b : List Byte) (s : State) : (putOutput b s).ecnt = s.ecnt := rfl
@[simp] theorem putOutput_evcnt (b : List Byte) (s : State) : (putOutput b s).evcnt = s.evcnt := rfl
@[simp] theorem putOutput_evkind (b : List Byte) (s : State) : (putOutput b s).evkind = s.evkind := rfl
@[simp] theorem putOutput_saddr (b : List Byte) (s : State) : (putOutput b s).saddr = s.saddr := rfl
@[simp] theorem putOutput_smode (b : List Byte) (s : State) : (putOutput b s).smode = s.smode := rfl
@[simp] theorem putOutput_stmo (b : List Byte) (s : State) : (putOutput b s).stmo = s.stmo := rfl
@[simp] theorem putOutput_devn (b : List Byte) (s : State) : (putOutput b s).devn = s.devn := rfl
@[simp] theorem putOutput_devsel (b : List Byte) (s : State) : (putOutput b s).devsel = s.devsel := rfl
@[simp] theorem putOutput_scanpos (b : List Byte) (s : State) : (putOutput b s).scanpos = s.scanpos := rfl
@[simp] theorem putOutput_saveAddr (b : List Byte) (s : State) : (putOutput b s).saveAddr = s.saveAddr := rfl
@[simp] theorem putOutput_saveMode (b : List Byte) (s : State) : (putOutput b s).saveMode = s.saveMode := rfl
@[simp] theorem putOutput_saveTmo (b : List Byte) (s : State) : (putOutput b s).saveTmo = s.saveTmo := rfl
@[simp] theorem putOutput_ibuf (b : List Byte) (s : State) : (putOutput b s).ibuf = s.ibuf := rfl
@[simp] theorem putOutput_obuf (b : List Byte) (s : State) : (putOutput b s).obuf = Memory.ofBytes b := rfl
@[simp] theorem putOutput_evt (b : List Byte) (s : State) : (putOutput b s).evt = s.evt := rfl
@[simp] theorem putOutput_devtab (b : List Byte) (s : State) : (putOutput b s).devtab = s.devtab := rfl
@[simp] theorem putOutput_ser (b : List Byte) (s : State) : (putOutput b s).ser = s.ser := rfl
@[simp] theorem putOutput_host (b : List Byte) (s : State) : (putOutput b s).host = s.host := rfl
@[simp] theorem putOutput_rdata (b : List Byte) (s : State) : (putOutput b s).rdata = s.rdata := rfl
@[simp] theorem putOutput_draws (b : List Byte) (s : State) : (putOutput b s).draws = s.draws := rfl

/-! recordNoResponse -/

@[simp] theorem recordNoResponse_busy (s : State) : (recordNoResponse s).busy = false := rfl
@[simp] theorem recordNoResponse_v (s : State) : (recordNoResponse s).v = false := rfl
@[simp] theorem recordNoResponse_w (s : State) : (recordNoResponse s).w = s.w := rfl
@[simp] theorem recordNoResponse_rc (s : State) : (recordNoResponse s).rc = .noResponse := rfl
@[simp] theorem recordNoResponse_sess (s : State) : (recordNoResponse s).sess = s.sess := rfl
@[simp] theorem recordNoResponse_cancel (s : State) : (recordNoResponse s).cancel = s.cancel := rfl
@[simp] theorem recordNoResponse_addr (s : State) : (recordNoResponse s).addr = s.addr := rfl
@[simp] theorem recordNoResponse_mode (s : State) : (recordNoResponse s).mode = s.mode := rfl
@[simp] theorem recordNoResponse_tmo (s : State) : (recordNoResponse s).tmo = s.tmo := rfl
@[simp] theorem recordNoResponse_scantmo (s : State) : (recordNoResponse s).scantmo = s.scantmo := rfl
@[simp] theorem recordNoResponse_hdr (s : State) : (recordNoResponse s).hdr = s.hdr := rfl
@[simp] theorem recordNoResponse_ilen (s : State) : (recordNoResponse s).ilen = s.ilen := rfl
@[simp] theorem recordNoResponse_arg (s : State) : (recordNoResponse s).arg = s.arg := rfl
@[simp] theorem recordNoResponse_res (s : State) : (recordNoResponse s).res = s.res := rfl
@[simp] theorem recordNoResponse_olen (s : State) : (recordNoResponse s).olen = 0#9 := rfl
@[simp] theorem recordNoResponse_rhdr (s : State) : (recordNoResponse s).rhdr = 0#8 := rfl
@[simp] theorem recordNoResponse_raddr (s : State) : (recordNoResponse s).raddr = 0#8 := rfl
@[simp] theorem recordNoResponse_ecnt (s : State) : (recordNoResponse s).ecnt = s.ecnt := rfl
@[simp] theorem recordNoResponse_evcnt (s : State) : (recordNoResponse s).evcnt = s.evcnt := rfl
@[simp] theorem recordNoResponse_evkind (s : State) : (recordNoResponse s).evkind = s.evkind := rfl
@[simp] theorem recordNoResponse_saddr (s : State) : (recordNoResponse s).saddr = s.saddr := rfl
@[simp] theorem recordNoResponse_smode (s : State) : (recordNoResponse s).smode = s.smode := rfl
@[simp] theorem recordNoResponse_stmo (s : State) : (recordNoResponse s).stmo = s.stmo := rfl
@[simp] theorem recordNoResponse_devn (s : State) : (recordNoResponse s).devn = s.devn := rfl
@[simp] theorem recordNoResponse_devsel (s : State) : (recordNoResponse s).devsel = s.devsel := rfl
@[simp] theorem recordNoResponse_scanpos (s : State) : (recordNoResponse s).scanpos = s.scanpos := rfl
@[simp] theorem recordNoResponse_saveAddr (s : State) : (recordNoResponse s).saveAddr = s.saveAddr := rfl
@[simp] theorem recordNoResponse_saveMode (s : State) : (recordNoResponse s).saveMode = s.saveMode := rfl
@[simp] theorem recordNoResponse_saveTmo (s : State) : (recordNoResponse s).saveTmo = s.saveTmo := rfl
@[simp] theorem recordNoResponse_ibuf (s : State) : (recordNoResponse s).ibuf = s.ibuf := rfl
@[simp] theorem recordNoResponse_obuf (s : State) : (recordNoResponse s).obuf = [] := rfl
@[simp] theorem recordNoResponse_evt (s : State) : (recordNoResponse s).evt = s.evt := rfl
@[simp] theorem recordNoResponse_devtab (s : State) : (recordNoResponse s).devtab = s.devtab := rfl
@[simp] theorem recordNoResponse_ser (s : State) : (recordNoResponse s).ser = s.ser := rfl
@[simp] theorem recordNoResponse_host (s : State) : (recordNoResponse s).host = s.host := rfl
@[simp] theorem recordNoResponse_rdata (s : State) : (recordNoResponse s).rdata = s.rdata := rfl
@[simp] theorem recordNoResponse_draws (s : State) : (recordNoResponse s).draws = s.draws := rfl

/-! recordResponse -/

@[simp] theorem recordResponse_busy (r : Response) (s : State) : (recordResponse r s).busy = false := rfl
@[simp] theorem recordResponse_v (r : Response) (s : State) : (recordResponse r s).v = r.valid := rfl
@[simp] theorem recordResponse_w (r : Response) (s : State) : (recordResponse r s).w = s.w := rfl
@[simp] theorem recordResponse_rc (r : Response) (s : State) : (recordResponse r s).rc = verdictCode r.valid := rfl
@[simp] theorem recordResponse_sess (r : Response) (s : State) : (recordResponse r s).sess = s.sess := rfl
@[simp] theorem recordResponse_cancel (r : Response) (s : State) : (recordResponse r s).cancel = s.cancel := rfl
@[simp] theorem recordResponse_addr (r : Response) (s : State) : (recordResponse r s).addr = s.addr := rfl
@[simp] theorem recordResponse_mode (r : Response) (s : State) : (recordResponse r s).mode = s.mode := rfl
@[simp] theorem recordResponse_tmo (r : Response) (s : State) : (recordResponse r s).tmo = s.tmo := rfl
@[simp] theorem recordResponse_scantmo (r : Response) (s : State) : (recordResponse r s).scantmo = s.scantmo := rfl
@[simp] theorem recordResponse_hdr (r : Response) (s : State) : (recordResponse r s).hdr = s.hdr := rfl
@[simp] theorem recordResponse_ilen (r : Response) (s : State) : (recordResponse r s).ilen = s.ilen := rfl
@[simp] theorem recordResponse_arg (r : Response) (s : State) : (recordResponse r s).arg = s.arg := rfl
@[simp] theorem recordResponse_res (r : Response) (s : State) : (recordResponse r s).res = s.res := rfl
@[simp] theorem recordResponse_olen (r : Response) (s : State) : (recordResponse r s).olen = BitVec.ofNat 9 r.payload.length := rfl
@[simp] theorem recordResponse_rhdr (r : Response) (s : State) : (recordResponse r s).rhdr = r.rhdr := rfl
@[simp] theorem recordResponse_raddr (r : Response) (s : State) : (recordResponse r s).raddr = r.raddr := rfl
@[simp] theorem recordResponse_ecnt (r : Response) (s : State) : (recordResponse r s).ecnt = s.ecnt := rfl
@[simp] theorem recordResponse_evcnt (r : Response) (s : State) : (recordResponse r s).evcnt = s.evcnt := rfl
@[simp] theorem recordResponse_evkind (r : Response) (s : State) : (recordResponse r s).evkind = s.evkind := rfl
@[simp] theorem recordResponse_saddr (r : Response) (s : State) : (recordResponse r s).saddr = s.saddr := rfl
@[simp] theorem recordResponse_smode (r : Response) (s : State) : (recordResponse r s).smode = s.smode := rfl
@[simp] theorem recordResponse_stmo (r : Response) (s : State) : (recordResponse r s).stmo = s.stmo := rfl
@[simp] theorem recordResponse_devn (r : Response) (s : State) : (recordResponse r s).devn = s.devn := rfl
@[simp] theorem recordResponse_devsel (r : Response) (s : State) : (recordResponse r s).devsel = s.devsel := rfl
@[simp] theorem recordResponse_scanpos (r : Response) (s : State) : (recordResponse r s).scanpos = s.scanpos := rfl
@[simp] theorem recordResponse_saveAddr (r : Response) (s : State) : (recordResponse r s).saveAddr = s.saveAddr := rfl
@[simp] theorem recordResponse_saveMode (r : Response) (s : State) : (recordResponse r s).saveMode = s.saveMode := rfl
@[simp] theorem recordResponse_saveTmo (r : Response) (s : State) : (recordResponse r s).saveTmo = s.saveTmo := rfl
@[simp] theorem recordResponse_ibuf (r : Response) (s : State) : (recordResponse r s).ibuf = s.ibuf := rfl
@[simp] theorem recordResponse_obuf (r : Response) (s : State) : (recordResponse r s).obuf = Memory.ofBytes r.payload := rfl
@[simp] theorem recordResponse_evt (r : Response) (s : State) : (recordResponse r s).evt = s.evt := rfl
@[simp] theorem recordResponse_devtab (r : Response) (s : State) : (recordResponse r s).devtab = s.devtab := rfl
@[simp] theorem recordResponse_ser (r : Response) (s : State) : (recordResponse r s).ser = s.ser := rfl
@[simp] theorem recordResponse_host (r : Response) (s : State) : (recordResponse r s).host = s.host := rfl
@[simp] theorem recordResponse_rdata (r : Response) (s : State) : (recordResponse r s).rdata = s.rdata := rfl
@[simp] theorem recordResponse_draws (r : Response) (s : State) : (recordResponse r s).draws = s.draws := rfl

/-! scanBegin -/

@[simp] theorem scanBegin_busy (s : State) : (scanBegin s).busy = true := rfl
@[simp] theorem scanBegin_v (s : State) : (scanBegin s).v = s.v := rfl
@[simp] theorem scanBegin_w (s : State) : (scanBegin s).w = s.w := rfl
@[simp] theorem scanBegin_rc (s : State) : (scanBegin s).rc = s.rc := rfl
@[simp] theorem scanBegin_sess (s : State) : (scanBegin s).sess = s.sess := rfl
@[simp] theorem scanBegin_cancel (s : State) : (scanBegin s).cancel = s.cancel := rfl
@[simp] theorem scanBegin_addr (s : State) : (scanBegin s).addr = s.addr := rfl
@[simp] theorem scanBegin_mode (s : State) : (scanBegin s).mode = s.mode := rfl
@[simp] theorem scanBegin_tmo (s : State) : (scanBegin s).tmo = s.tmo := rfl
@[simp] theorem scanBegin_scantmo (s : State) : (scanBegin s).scantmo = s.scantmo := rfl
@[simp] theorem scanBegin_hdr (s : State) : (scanBegin s).hdr = s.hdr := rfl
@[simp] theorem scanBegin_ilen (s : State) : (scanBegin s).ilen = s.ilen := rfl
@[simp] theorem scanBegin_arg (s : State) : (scanBegin s).arg = s.arg := rfl
@[simp] theorem scanBegin_res (s : State) : (scanBegin s).res = s.res := rfl
@[simp] theorem scanBegin_olen (s : State) : (scanBegin s).olen = s.olen := rfl
@[simp] theorem scanBegin_rhdr (s : State) : (scanBegin s).rhdr = s.rhdr := rfl
@[simp] theorem scanBegin_raddr (s : State) : (scanBegin s).raddr = s.raddr := rfl
@[simp] theorem scanBegin_ecnt (s : State) : (scanBegin s).ecnt = s.ecnt := rfl
@[simp] theorem scanBegin_evcnt (s : State) : (scanBegin s).evcnt = s.evcnt := rfl
@[simp] theorem scanBegin_evkind (s : State) : (scanBegin s).evkind = s.evkind := rfl
@[simp] theorem scanBegin_saddr (s : State) : (scanBegin s).saddr = s.saddr := rfl
@[simp] theorem scanBegin_smode (s : State) : (scanBegin s).smode = s.smode := rfl
@[simp] theorem scanBegin_stmo (s : State) : (scanBegin s).stmo = s.scantmo := rfl
@[simp] theorem scanBegin_devn (s : State) : (scanBegin s).devn = 0#10 := rfl
@[simp] theorem scanBegin_devsel (s : State) : (scanBegin s).devsel = s.devsel := rfl
@[simp] theorem scanBegin_scanpos (s : State) : (scanBegin s).scanpos = 0#10 := rfl
@[simp] theorem scanBegin_saveAddr (s : State) : (scanBegin s).saveAddr = s.saddr := rfl
@[simp] theorem scanBegin_saveMode (s : State) : (scanBegin s).saveMode = s.smode := rfl
@[simp] theorem scanBegin_saveTmo (s : State) : (scanBegin s).saveTmo = s.stmo := rfl
@[simp] theorem scanBegin_ibuf (s : State) : (scanBegin s).ibuf = s.ibuf := rfl
@[simp] theorem scanBegin_obuf (s : State) : (scanBegin s).obuf = s.obuf := rfl
@[simp] theorem scanBegin_evt (s : State) : (scanBegin s).evt = s.evt := rfl
@[simp] theorem scanBegin_devtab (s : State) : (scanBegin s).devtab = [] := rfl
@[simp] theorem scanBegin_ser (s : State) : (scanBegin s).ser = s.ser := rfl
@[simp] theorem scanBegin_host (s : State) : (scanBegin s).host = s.host := rfl
@[simp] theorem scanBegin_rdata (s : State) : (scanBegin s).rdata = s.rdata := rfl
@[simp] theorem scanBegin_draws (s : State) : (scanBegin s).draws = s.draws := rfl

/-! scanFinish -/

@[simp] theorem scanFinish_busy (rc : ResultCode) (s : State) : (scanFinish rc s).busy = false := rfl
@[simp] theorem scanFinish_v (rc : ResultCode) (s : State) : (scanFinish rc s).v = false := rfl
@[simp] theorem scanFinish_w (rc : ResultCode) (s : State) : (scanFinish rc s).w = false := rfl
@[simp] theorem scanFinish_rc (rc : ResultCode) (s : State) : (scanFinish rc s).rc = rc := rfl
@[simp] theorem scanFinish_sess (rc : ResultCode) (s : State) : (scanFinish rc s).sess = s.sess := rfl
@[simp] theorem scanFinish_cancel (rc : ResultCode) (s : State) : (scanFinish rc s).cancel = false := rfl
@[simp] theorem scanFinish_addr (rc : ResultCode) (s : State) : (scanFinish rc s).addr = s.addr := rfl
@[simp] theorem scanFinish_mode (rc : ResultCode) (s : State) : (scanFinish rc s).mode = s.mode := rfl
@[simp] theorem scanFinish_tmo (rc : ResultCode) (s : State) : (scanFinish rc s).tmo = s.tmo := rfl
@[simp] theorem scanFinish_scantmo (rc : ResultCode) (s : State) : (scanFinish rc s).scantmo = s.scantmo := rfl
@[simp] theorem scanFinish_hdr (rc : ResultCode) (s : State) : (scanFinish rc s).hdr = s.hdr := rfl
@[simp] theorem scanFinish_ilen (rc : ResultCode) (s : State) : (scanFinish rc s).ilen = s.ilen := rfl
@[simp] theorem scanFinish_arg (rc : ResultCode) (s : State) : (scanFinish rc s).arg = s.arg := rfl
@[simp] theorem scanFinish_res (rc : ResultCode) (s : State) : (scanFinish rc s).res = s.res := rfl
@[simp] theorem scanFinish_olen (rc : ResultCode) (s : State) : (scanFinish rc s).olen = 0#9 := rfl
@[simp] theorem scanFinish_rhdr (rc : ResultCode) (s : State) : (scanFinish rc s).rhdr = 0#8 := rfl
@[simp] theorem scanFinish_raddr (rc : ResultCode) (s : State) : (scanFinish rc s).raddr = 0#8 := rfl
@[simp] theorem scanFinish_ecnt (rc : ResultCode) (s : State) : (scanFinish rc s).ecnt = 0#9 := rfl
@[simp] theorem scanFinish_evcnt (rc : ResultCode) (s : State) : (scanFinish rc s).evcnt = s.evcnt := rfl
@[simp] theorem scanFinish_evkind (rc : ResultCode) (s : State) : (scanFinish rc s).evkind = s.evkind := rfl
@[simp] theorem scanFinish_saddr (rc : ResultCode) (s : State) : (scanFinish rc s).saddr = s.saveAddr := rfl
@[simp] theorem scanFinish_smode (rc : ResultCode) (s : State) : (scanFinish rc s).smode = s.saveMode := rfl
@[simp] theorem scanFinish_stmo (rc : ResultCode) (s : State) : (scanFinish rc s).stmo = s.saveTmo := rfl
@[simp] theorem scanFinish_devn (rc : ResultCode) (s : State) : (scanFinish rc s).devn = s.devn := rfl
@[simp] theorem scanFinish_devsel (rc : ResultCode) (s : State) : (scanFinish rc s).devsel = s.devsel := rfl
@[simp] theorem scanFinish_scanpos (rc : ResultCode) (s : State) : (scanFinish rc s).scanpos = s.scanpos := rfl
@[simp] theorem scanFinish_saveAddr (rc : ResultCode) (s : State) : (scanFinish rc s).saveAddr = s.saveAddr := rfl
@[simp] theorem scanFinish_saveMode (rc : ResultCode) (s : State) : (scanFinish rc s).saveMode = s.saveMode := rfl
@[simp] theorem scanFinish_saveTmo (rc : ResultCode) (s : State) : (scanFinish rc s).saveTmo = s.saveTmo := rfl
@[simp] theorem scanFinish_ibuf (rc : ResultCode) (s : State) : (scanFinish rc s).ibuf = s.ibuf := rfl
@[simp] theorem scanFinish_obuf (rc : ResultCode) (s : State) : (scanFinish rc s).obuf = [] := rfl
@[simp] theorem scanFinish_evt (rc : ResultCode) (s : State) : (scanFinish rc s).evt = s.evt := rfl
@[simp] theorem scanFinish_devtab (rc : ResultCode) (s : State) : (scanFinish rc s).devtab = s.devtab := rfl
@[simp] theorem scanFinish_ser (rc : ResultCode) (s : State) : (scanFinish rc s).ser = s.ser := rfl
@[simp] theorem scanFinish_host (rc : ResultCode) (s : State) : (scanFinish rc s).host = s.host := rfl
@[simp] theorem scanFinish_rdata (rc : ResultCode) (s : State) : (scanFinish rc s).rdata = s.rdata := rfl
@[simp] theorem scanFinish_draws (rc : ResultCode) (s : State) : (scanFinish rc s).draws = s.draws := rfl

/-! scanRecord -/

@[simp] theorem scanRecord_busy (f : List Device) (l : SerLine) (s : State) : (scanRecord f l s).busy = s.busy := rfl
@[simp] theorem scanRecord_v (f : List Device) (l : SerLine) (s : State) : (scanRecord f l s).v = s.v := rfl
@[simp] theorem scanRecord_w (f : List Device) (l : SerLine) (s : State) : (scanRecord f l s).w = s.w := rfl
@[simp] theorem scanRecord_rc (f : List Device) (l : SerLine) (s : State) : (scanRecord f l s).rc = s.rc := rfl
@[simp] theorem scanRecord_sess (f : List Device) (l : SerLine) (s : State) : (scanRecord f l s).sess = s.sess := rfl
@[simp] theorem scanRecord_cancel (f : List Device) (l : SerLine) (s : State) : (scanRecord f l s).cancel = s.cancel := rfl
@[simp] theorem scanRecord_addr (f : List Device) (l : SerLine) (s : State) : (scanRecord f l s).addr = s.addr := rfl
@[simp] theorem scanRecord_mode (f : List Device) (l : SerLine) (s : State) : (scanRecord f l s).mode = s.mode := rfl
@[simp] theorem scanRecord_tmo (f : List Device) (l : SerLine) (s : State) : (scanRecord f l s).tmo = s.tmo := rfl
@[simp] theorem scanRecord_scantmo (f : List Device) (l : SerLine) (s : State) : (scanRecord f l s).scantmo = s.scantmo := rfl
@[simp] theorem scanRecord_hdr (f : List Device) (l : SerLine) (s : State) : (scanRecord f l s).hdr = s.hdr := rfl
@[simp] theorem scanRecord_ilen (f : List Device) (l : SerLine) (s : State) : (scanRecord f l s).ilen = s.ilen := rfl
@[simp] theorem scanRecord_arg (f : List Device) (l : SerLine) (s : State) : (scanRecord f l s).arg = s.arg := rfl
@[simp] theorem scanRecord_res (f : List Device) (l : SerLine) (s : State) : (scanRecord f l s).res = s.res := rfl
@[simp] theorem scanRecord_olen (f : List Device) (l : SerLine) (s : State) : (scanRecord f l s).olen = s.olen := rfl
@[simp] theorem scanRecord_rhdr (f : List Device) (l : SerLine) (s : State) : (scanRecord f l s).rhdr = s.rhdr := rfl
@[simp] theorem scanRecord_raddr (f : List Device) (l : SerLine) (s : State) : (scanRecord f l s).raddr = s.raddr := rfl
@[simp] theorem scanRecord_ecnt (f : List Device) (l : SerLine) (s : State) : (scanRecord f l s).ecnt = s.ecnt := rfl
@[simp] theorem scanRecord_evcnt (f : List Device) (l : SerLine) (s : State) : (scanRecord f l s).evcnt = s.evcnt := rfl
@[simp] theorem scanRecord_evkind (f : List Device) (l : SerLine) (s : State) : (scanRecord f l s).evkind = s.evkind := rfl
@[simp] theorem scanRecord_saddr (f : List Device) (l : SerLine) (s : State) : (scanRecord f l s).saddr = s.saddr := rfl
@[simp] theorem scanRecord_smode (f : List Device) (l : SerLine) (s : State) : (scanRecord f l s).smode = s.smode := rfl
@[simp] theorem scanRecord_stmo (f : List Device) (l : SerLine) (s : State) : (scanRecord f l s).stmo = s.stmo := rfl
@[simp] theorem scanRecord_devn (f : List Device) (l : SerLine) (s : State) : (scanRecord f l s).devn = s.devn + BitVec.ofNat 10 f.length := rfl
@[simp] theorem scanRecord_devsel (f : List Device) (l : SerLine) (s : State) : (scanRecord f l s).devsel = s.devsel := rfl
@[simp] theorem scanRecord_scanpos (f : List Device) (l : SerLine) (s : State) : (scanRecord f l s).scanpos = s.scanpos + 1#10 := rfl
@[simp] theorem scanRecord_saveAddr (f : List Device) (l : SerLine) (s : State) : (scanRecord f l s).saveAddr = s.saveAddr := rfl
@[simp] theorem scanRecord_saveMode (f : List Device) (l : SerLine) (s : State) : (scanRecord f l s).saveMode = s.saveMode := rfl
@[simp] theorem scanRecord_saveTmo (f : List Device) (l : SerLine) (s : State) : (scanRecord f l s).saveTmo = s.saveTmo := rfl
@[simp] theorem scanRecord_ibuf (f : List Device) (l : SerLine) (s : State) : (scanRecord f l s).ibuf = s.ibuf := rfl
@[simp] theorem scanRecord_obuf (f : List Device) (l : SerLine) (s : State) : (scanRecord f l s).obuf = s.obuf := rfl
@[simp] theorem scanRecord_evt (f : List Device) (l : SerLine) (s : State) : (scanRecord f l s).evt = s.evt := rfl
@[simp] theorem scanRecord_devtab (f : List Device) (l : SerLine) (s : State) : (scanRecord f l s).devtab = s.devtab ++ f := rfl
@[simp] theorem scanRecord_ser (f : List Device) (l : SerLine) (s : State) : (scanRecord f l s).ser = l := rfl
@[simp] theorem scanRecord_host (f : List Device) (l : SerLine) (s : State) : (scanRecord f l s).host = s.host := rfl
@[simp] theorem scanRecord_rdata (f : List Device) (l : SerLine) (s : State) : (scanRecord f l s).rdata = s.rdata := rfl
@[simp] theorem scanRecord_draws (f : List Device) (l : SerLine) (s : State) : (scanRecord f l s).draws = s.draws := rfl

/-! resetBlock -/

@[simp] theorem resetBlock_busy (s : State) : (resetBlock s).busy = State.reset.busy := rfl
@[simp] theorem resetBlock_v (s : State) : (resetBlock s).v = State.reset.v := rfl
@[simp] theorem resetBlock_w (s : State) : (resetBlock s).w = State.reset.w := rfl
@[simp] theorem resetBlock_rc (s : State) : (resetBlock s).rc = State.reset.rc := rfl
@[simp] theorem resetBlock_sess (s : State) : (resetBlock s).sess = State.reset.sess := rfl
@[simp] theorem resetBlock_cancel (s : State) : (resetBlock s).cancel = State.reset.cancel := rfl
@[simp] theorem resetBlock_addr (s : State) : (resetBlock s).addr = State.reset.addr := rfl
@[simp] theorem resetBlock_mode (s : State) : (resetBlock s).mode = State.reset.mode := rfl
@[simp] theorem resetBlock_tmo (s : State) : (resetBlock s).tmo = State.reset.tmo := rfl
@[simp] theorem resetBlock_scantmo (s : State) : (resetBlock s).scantmo = State.reset.scantmo := rfl
@[simp] theorem resetBlock_hdr (s : State) : (resetBlock s).hdr = State.reset.hdr := rfl
@[simp] theorem resetBlock_ilen (s : State) : (resetBlock s).ilen = State.reset.ilen := rfl
@[simp] theorem resetBlock_arg (s : State) : (resetBlock s).arg = State.reset.arg := rfl
@[simp] theorem resetBlock_res (s : State) : (resetBlock s).res = State.reset.res := rfl
@[simp] theorem resetBlock_olen (s : State) : (resetBlock s).olen = State.reset.olen := rfl
@[simp] theorem resetBlock_rhdr (s : State) : (resetBlock s).rhdr = State.reset.rhdr := rfl
@[simp] theorem resetBlock_raddr (s : State) : (resetBlock s).raddr = State.reset.raddr := rfl
@[simp] theorem resetBlock_ecnt (s : State) : (resetBlock s).ecnt = State.reset.ecnt := rfl
@[simp] theorem resetBlock_evcnt (s : State) : (resetBlock s).evcnt = State.reset.evcnt := rfl
@[simp] theorem resetBlock_evkind (s : State) : (resetBlock s).evkind = State.reset.evkind := rfl
@[simp] theorem resetBlock_saddr (s : State) : (resetBlock s).saddr = State.reset.saddr := rfl
@[simp] theorem resetBlock_smode (s : State) : (resetBlock s).smode = State.reset.smode := rfl
@[simp] theorem resetBlock_stmo (s : State) : (resetBlock s).stmo = State.reset.stmo := rfl
@[simp] theorem resetBlock_devn (s : State) : (resetBlock s).devn = State.reset.devn := rfl
@[simp] theorem resetBlock_devsel (s : State) : (resetBlock s).devsel = State.reset.devsel := rfl
@[simp] theorem resetBlock_scanpos (s : State) : (resetBlock s).scanpos = State.reset.scanpos := rfl
@[simp] theorem resetBlock_saveAddr (s : State) : (resetBlock s).saveAddr = State.reset.saveAddr := rfl
@[simp] theorem resetBlock_saveMode (s : State) : (resetBlock s).saveMode = State.reset.saveMode := rfl
@[simp] theorem resetBlock_saveTmo (s : State) : (resetBlock s).saveTmo = State.reset.saveTmo := rfl
@[simp] theorem resetBlock_ibuf (s : State) : (resetBlock s).ibuf = State.reset.ibuf := rfl
@[simp] theorem resetBlock_obuf (s : State) : (resetBlock s).obuf = State.reset.obuf := rfl
@[simp] theorem resetBlock_evt (s : State) : (resetBlock s).evt = State.reset.evt := rfl
@[simp] theorem resetBlock_devtab (s : State) : (resetBlock s).devtab = State.reset.devtab := rfl
@[simp] theorem resetBlock_ser (s : State) : (resetBlock s).ser = s.ser := rfl
@[simp] theorem resetBlock_host (s : State) : (resetBlock s).host = s.host := rfl
@[simp] theorem resetBlock_rdata (s : State) : (resetBlock s).rdata = s.rdata := rfl
@[simp] theorem resetBlock_draws (s : State) : (resetBlock s).draws = s.draws := rfl

end Sys2Proof.Machine
end

