-- ==== Sys2Proof/Laws/Commands.lean ====
section
/-! SUPPORT. What each command, a step of a running SCAN, and a Host access can do: one inversion lemma each. -/

namespace Sys2Proof.Machine

@[simp] theorem lengthBad_eq_true (limit : Nat) (s : State) : lengthBad limit s = true ↔ limit < s.ilen.toNat := by
  simp [lengthBad]

@[simp] theorem opened_eq_true (s : State) : opened s = true ↔ s.sess = .idle := by simp [opened]

@[simp] theorem opened_eq_false (s : State) : opened s = false ↔ s.sess = .closed := by
  cases h : s.sess <;> simp [opened, h]

theorem modeOf_eq_none (m : BitVec 2) : modeOf m = none ↔ m = 0#2 ∨ m = 3#2 := by
  revert m; decide

theorem modeOf_eq_some (m : BitVec 2) (i : IntegrityMode) : modeOf m = some i ↔ m = i.code := by
  revert m i; intro m i; cases i <;> revert m <;> decide

/-- CRCGEN is refused for its length, or writes RES. -/
theorem execCrcgen_cases (s : State) :
    (bufCap < s.ilen.toNat ∧ execCrcgen s = .next (complete .lengthError s)) ∨
    (s.ilen.toNat ≤ bufCap ∧
      execCrcgen s = .next (complete .ok { drawn s.ilen.toNat s with res := crc16 (ibufInput s) })) := by
  unfold execCrcgen
  by_cases h : bufCap < s.ilen.toNat
  · left; simp [h]
  · right; simp [h]; omega

/-- CRCCHK is refused for its length, or writes RES and V. -/
theorem execCrcchk_cases (s : State) :
    (bufCap < s.ilen.toNat ∧ execCrcchk s = .next (complete .lengthError s)) ∨
    (s.ilen.toNat ≤ bufCap ∧ execCrcchk s = .next (complete (verdictCode (decide (crc16 (ibufInput s) = s.arg)))
      { drawn s.ilen.toNat s with res := crc16 (ibufInput s), v := decide (crc16 (ibufInput s) = s.arg) })) := by
  unfold execCrcchk
  by_cases h : bufCap < s.ilen.toNat
  · left; simp [h]
  · right; simp [h]; omega

/-- SUMGEN is refused for its length, or writes RES. -/
theorem execSumgen_cases (s : State) :
    (bufCap < s.ilen.toNat ∧ execSumgen s = .next (complete .lengthError s)) ∨
    (s.ilen.toNat ≤ bufCap ∧
      execSumgen s = .next (complete .ok { drawn s.ilen.toNat s with res := (checksum8 (ibufInput s)).setWidth 16 })) := by
  unfold execSumgen
  by_cases h : bufCap < s.ilen.toNat
  · left; simp [h]
  · right; simp [h]; omega

/-- SUMCHK is refused for its length, or writes RES and V. -/
theorem execSumchk_cases (s : State) :
    (bufCap < s.ilen.toNat ∧ execSumchk s = .next (complete .lengthError s)) ∨
    (s.ilen.toNat ≤ bufCap ∧
      execSumchk s = .next (complete (verdictCode (checksumValid (ibufInput s) (s.arg.extractLsb' 0 8)))
        { drawn s.ilen.toNat s with
          res := (checksum8 (ibufInput s)).setWidth 16, v := checksumValid (ibufInput s) (s.arg.extractLsb' 0 8) })) := by
  unfold execSumchk
  by_cases h : bufCap < s.ilen.toNat
  · left; simp [h]
  · right; simp [h]; omega

/-- SEAL is refused for its mode, then for its length, or stores the sealed frame. -/
theorem execSeal_cases (s : State) :
    ((s.mode = 0#2 ∨ s.mode = 3#2) ∧ execSeal s = .next (complete .configError s)) ∨
    ∃ m : IntegrityMode, s.mode = m.code ∧
      ((maxPayload < s.ilen.toNat ∧ execSeal s = .next (complete .lengthError s)) ∨
        (s.ilen.toNat ≤ maxPayload ∧ execSeal s =
          .next (complete .ok (putOutput (sealFrame m s.addr s.hdr (ibufInput s)) (drawn s.ilen.toNat s))))) := by
  unfold execSeal
  cases hm : modeOf s.mode with
  | none => left; exact ⟨(modeOf_eq_none _).mp hm, rfl⟩
  | some m =>
    right
    refine ⟨m, (modeOf_eq_some _ _).mp hm, ?_⟩
    by_cases h : maxPayload < s.ilen.toNat
    · left; simp [h]
    · right; simp [h]; omega

/-- UNSEAL is refused for its mode, then for its length, or stores the stripped frame and its verdict. -/
theorem execUnseal_cases (s : State) :
    ((s.mode = 0#2 ∨ s.mode = 3#2) ∧ execUnseal s = .next (complete .configError s)) ∨
    ∃ m : IntegrityMode, s.mode = m.code ∧
      ((bufCap < s.ilen.toNat ∧ execUnseal s = .next (complete .lengthError s)) ∨
        (s.ilen.toNat ≤ bufCap ∧ execUnseal s = .next (complete (unsealFrame m (ibufInput s)).code
          { putOutput (unsealFrame m (ibufInput s)).stripped (drawn s.ilen.toNat s) with
            v := (unsealFrame m (ibufInput s)).valid }))) := by
  unfold execUnseal
  cases hm : modeOf s.mode with
  | none => left; exact ⟨(modeOf_eq_none _).mp hm, rfl⟩
  | some m =>
    right
    refine ⟨m, (modeOf_eq_some _ _).mp hm, ?_⟩
    by_cases h : bufCap < s.ilen.toNat
    · left; simp [h]
    · right; simp [h]; omega

/-- OPEN fails and closes the session, or loads it. -/
theorem execOpen_cases (s : State) :
    ((s.mode = 0#2 ∨ s.mode = 3#2 ∨ s.addr = 0#8) ∧
      execOpen s = .next (complete .configError { s with sess := .closed })) ∨
    ((∃ m : IntegrityMode, s.mode = m.code) ∧ s.addr ≠ 0#8 ∧ execOpen s =
      .next (complete .ok { s with saddr := s.addr, smode := s.mode, stmo := s.tmo, sess := .idle })) := by
  unfold execOpen
  cases hm : modeOf s.mode with
  | none =>
    left
    refine ⟨?_, by simp⟩
    obtain h | h := (modeOf_eq_none _).mp hm
    · exact .inl h
    · exact .inr (.inl h)
  | some m =>
    by_cases ha : s.addr = 0#8
    · left; exact ⟨.inr (.inr ha), by simp [ha]⟩
    · right; exact ⟨⟨m, (modeOf_eq_some _ _).mp hm⟩, ha, by simp [ha]⟩

/-- The exchange XCHG makes. -/
def xchgExchange (s : State) : Exchange := exchange s.saddr (sessionMode s) s.stmo s.hdr (ibufInput s) s.ser

/-- The state XCHG records the exchange's outcome in: echo count, warning, SER port. -/
def afterExchange (s : State) : State :=
  { drawn s.ilen.toNat s with
    ser := (xchgExchange s).line, ecnt := BitVec.ofNat 9 (xchgExchange s).echo, w := decide ((xchgExchange s).echo = 0)
    sess := .idle }

/-- XCHG is refused without a session, then for its length, or records NO_RESPONSE or the response. -/
theorem execXchg_cases (s : State) :
    (s.sess = .closed ∧ execXchg s = .next (complete .notOpen s)) ∨
    (s.sess = .idle ∧ maxPayload < s.ilen.toNat ∧ execXchg s = .next (complete .lengthError s)) ∨
    (s.sess = .idle ∧ s.ilen.toNat ≤ maxPayload ∧
      (((xchgExchange s).response = none ∧ execXchg s = .next (recordNoResponse (afterExchange s))) ∨
        ∃ r, (xchgExchange s).response = some r ∧ execXchg s = .next (recordResponse r (afterExchange s)))) := by
  cases hs : s.sess with
  | closed => left; exact ⟨rfl, by simp [execXchg, hs]⟩
  | idle =>
    right
    by_cases hl : maxPayload < s.ilen.toNat
    · left; exact ⟨rfl, hl, by simp [execXchg, hs, hl]⟩
    · right
      refine ⟨rfl, by omega, ?_⟩
      have hx : execXchg s = (match (xchgExchange s).response with
          | none => .next (recordNoResponse (afterExchange s))
          | some r => .next (recordResponse r (afterExchange s))) := by
        simp only [execXchg, opened_eq_false, hs, lengthBad_eq_true, hl, if_false]
        rfl
      rw [hx]
      cases hr : (xchgExchange s).response with
      | none => left; exact ⟨rfl, rfl⟩
      | some r => right; exact ⟨r, rfl, rfl⟩

/-- A decoder is refused for its length, or writes EVCNT, EVKIND and EVT. -/
theorem decodeEvents_cases (kind : EventKind) (classify : Byte → Byte → Category × Route) (src : Source) (s : State) :
    (src = .ibuf ∧ bufCap < s.ilen.toNat ∧ decodeEvents kind classify src s = complete .lengthError s) ∨
    ((src = .ibuf → s.ilen.toNat ≤ bufCap) ∧ decodeEvents kind classify src s =
      complete .ok { drawn (sourceLength src s) s with
        evcnt := eventCounter (sourceInput src s), evkind := kind, evt := eventBatch classify (sourceInput src s) }) := by
  cases src with
  | ibuf =>
    by_cases h : bufCap < s.ilen.toNat
    · left; exact ⟨rfl, h, by simp [decodeEvents, sourceLengthBad, h]⟩
    · right; exact ⟨fun _ => by omega, by simp [decodeEvents, sourceLengthBad, h]⟩
  | obuf => right; exact ⟨nofun, by simp [decodeEvents, sourceLengthBad]⟩

/-- DECODE is one of the two decoders, or is refused for its header. -/
theorem execDecode_cases (src : Source) (s : State) :
    (s.hdr = 159#8 ∧ execDecode src s = .next (decodeEvents .bill classifyBill src s)) ∨
    (s.hdr = 229#8 ∧ execDecode src s = .next (decodeEvents .coin classifyCoin src s)) ∨
    (s.hdr ≠ 159#8 ∧ s.hdr ≠ 229#8 ∧ execDecode src s = .next (complete .notEvent s)) := by
  unfold execDecode billEventHdr coinEventHdr
  by_cases h1 : s.hdr = 159#8
  · left; simp [h1]
  · right
    by_cases h2 : s.hdr = 229#8
    · left; simp [h2]
    · right; simp [h1, h2]

/-- SCAN is refused without a session, ended by a CANCEL already set, or under way. -/
theorem execScan_cases (s : State) :
    (s.sess = .closed ∧ execScan s = .next (complete .notOpen s)) ∨
    (s.sess = .idle ∧ s.cancel = true ∧ execScan s = .next (scanFinish .cancelled (scanBegin s))) ∨
    (s.sess = .idle ∧ s.cancel = false ∧ execScan s = .next (scanBegin s)) := by
  cases hs : s.sess <;> cases hc : s.cancel <;> simp [execScan, hs, hc]

/-- The session registers during probe SCANPOS. -/
def probeTarget (s : State) : State :=
  { s with saddr := scanAddress s.scanpos.toNat, smode := (scanMode s.scanpos.toNat).code }

/-- The simple poll of probe SCANPOS. -/
def probePoll (s : State) : Exchange :=
  exchange (scanAddress s.scanpos.toNat) (scanMode s.scanpos.toNat) s.stmo Config.simplePollHdr [] s.ser

/-- The name request of probe SCANPOS. -/
def probeName (s : State) : Exchange :=
  exchange (scanAddress s.scanpos.toNat) (scanMode s.scanpos.toNat) s.stmo Config.manufIdHdr [] (probePoll s).line

/-- A probe records nothing, or one device with a name of at most 255 bytes. -/
theorem scanProbe_cases (s : State) :
    ((probePoll s).response = none ∧ scanProbe s = scanRecord [] (probePoll s).line (probeTarget s)) ∨
    ((probePoll s).response ≠ none ∧ (deviceName (probeName s).response).length ≤ maxPayload ∧
      scanProbe s = scanRecord
        [{ address := scanAddress s.scanpos.toNat, mode := scanMode s.scanpos.toNat
           name := deviceName (probeName s).response }] (probeName s).line (probeTarget s)) := by
  have hx : scanProbe s = (match (probePoll s).response with
      | none => scanRecord [] (probePoll s).line (probeTarget s)
      | some _ => scanRecord
          [{ address := scanAddress s.scanpos.toNat, mode := scanMode s.scanpos.toNat
             name := deviceName (probeName s).response }] (probeName s).line (probeTarget s)) := rfl
  rw [hx]
  cases hr : (probePoll s).response with
  | none => left; exact ⟨rfl, rfl⟩
  | some r =>
    right
    refine ⟨nofun, ?_, rfl⟩
    cases hn : (probeName s).response with
    | none => exact Nat.zero_le _
    | some r' => exact exchange_payload_le _ _ _ _ _ _ _ hn

/-- A step of a running SCAN completes it, stops on CANCEL, or makes a probe. -/
theorem scanAdvance_cases (s : State) :
    (devCap ≤ s.scanpos.toNat ∧ scanAdvance s = scanFinish .ok s) ∨
    (s.scanpos.toNat < devCap ∧ s.cancel = true ∧ scanAdvance s = scanFinish .cancelled s) ∨
    (s.scanpos.toNat < devCap ∧ s.cancel = false ∧ scanAdvance s = scanProbe s) := by
  unfold scanAdvance
  by_cases h : devCap ≤ s.scanpos.toNat
  · left; simp [h]
  · right
    cases hc : s.cancel <;> simp [h] <;> omega

/-- Every command answers a next state. -/
theorem exec_next (i : Instr) (s : State) : ∃ t, exec i s = .next t := by
  cases i with
  | crcgen => rcases execCrcgen_cases s with ⟨-, h⟩ | ⟨-, h⟩ <;> exact ⟨_, h⟩
  | crcchk => rcases execCrcchk_cases s with ⟨-, h⟩ | ⟨-, h⟩ <;> exact ⟨_, h⟩
  | sumgen => rcases execSumgen_cases s with ⟨-, h⟩ | ⟨-, h⟩ <;> exact ⟨_, h⟩
  | sumchk => rcases execSumchk_cases s with ⟨-, h⟩ | ⟨-, h⟩ <;> exact ⟨_, h⟩
  | sealCmd => rcases execSeal_cases s with ⟨-, h⟩ | ⟨m, -, ⟨-, h⟩ | ⟨-, h⟩⟩ <;> exact ⟨_, h⟩
  | unsealCmd => rcases execUnseal_cases s with ⟨-, h⟩ | ⟨m, -, ⟨-, h⟩ | ⟨-, h⟩⟩ <;> exact ⟨_, h⟩
  | openCmd => rcases execOpen_cases s with ⟨-, h⟩ | ⟨-, -, h⟩ <;> exact ⟨_, h⟩
  | xchg => rcases execXchg_cases s with ⟨-, h⟩ | ⟨-, -, h⟩ | ⟨-, -, ⟨-, h⟩ | ⟨r, -, h⟩⟩ <;> exact ⟨_, h⟩
  | decbill src => exact ⟨_, rfl⟩
  | deccoin src => exact ⟨_, rfl⟩
  | decode src => rcases execDecode_cases src s with ⟨-, h⟩ | ⟨-, h⟩ | ⟨-, -, h⟩ <;> exact ⟨_, h⟩
  | scan => rcases execScan_cases s with ⟨-, h⟩ | ⟨-, -, h⟩ | ⟨-, -, h⟩ <;> exact ⟨_, h⟩

/-- An accepted word is executed, or only sets ILLEGAL_CMD. -/
theorem accept_cases (w : Word) (s : State) :
    (∃ i, decode w = .ok i ∧ accept w s = exec i { s with busy := true }) ∨
    (∃ e, decode w = .error e ∧ accept w s = .next (complete .illegalCmd { s with busy := true })) := by
  unfold accept
  cases h : decode w with
  | ok i => left; exact ⟨i, rfl, rfl⟩
  | error e => right; exact ⟨e, rfl, rfl⟩

/-- Every accepted word answers a next state. -/
theorem accept_next (w : Word) (s : State) : ∃ t, accept w s = .next t := by
  obtain ⟨i, -, h⟩ | ⟨e, -, h⟩ := accept_cases w s
  · rw [h]; exact exec_next i _
  · exact ⟨_, h⟩

/-- The registers a Host write stores into, and IBUF. -/
theorem writeLocation_cases (v : Word) (s : State) (l : Location) :
    writeLocation v s l = s ∨
    (∃ i, l = .ibuf i ∧ writeLocation v s l = { s with ibuf := Memory.set s.ibuf i (v.setWidth 8) }) ∨
    (l = .reg .ctrl ∧ writeLocation v s l = { s with cancel := v.getLsbD 0 }) ∨
    (l = .reg .addr ∧ writeLocation v s l = { s with addr := v.setWidth 8 }) ∨
    (l = .reg .mode ∧ writeLocation v s l = { s with mode := v.setWidth 2 }) ∨
    (l = .reg .tmo ∧ writeLocation v s l = { s with tmo := v }) ∨
    (l = .reg .scantmo ∧ writeLocation v s l = { s with scantmo := v }) ∨
    (l = .reg .hdr ∧ writeLocation v s l = { s with hdr := v.setWidth 8 }) ∨
    (l = .reg .ilen ∧ writeLocation v s l = { s with ilen := v.setWidth 9 }) ∨
    (l = .reg .arg ∧ writeLocation v s l = { s with arg := v }) ∨
    (l = .reg .devsel ∧ writeLocation v s l = { s with devsel := v.setWidth 10 }) := by
  cases l with
  | reg r => cases r <;> simp [writeLocation, writeReg]
  | ibuf i => exact .inr (.inl ⟨i, rfl, rfl⟩)
  | obuf i => exact .inl rfl
  | evt k f => exact .inl rfl
  | devname i => exact .inl rfl
  | unmapped => exact .inl rfl

/-- An address of the IBUF window is an index of IBUF. -/
theorem locate_ibuf (a : HostAddr) (i : Nat) (h : locate a = .ibuf i) : i < bufCap ∧ a.toNat = 0x100 + i := by
  unfold locate at h
  simp only [evtLocation] at h
  split at h
  · split at h <;> cases h
  · split at h
    · simp only [Location.ibuf.injEq] at h
      simp only [bufCap]
      omega
    · repeat' split at h
      all_goals cases h

end Sys2Proof.Machine
end

