-- ==== Sys2Proof/Laws/Memory.lean ====
section
/-! SUPPORT. The byte buffers: read after write, the canonical form, and what a stored or read byte sequence is. -/

namespace Sys2Proof.Machine

@[simp] theorem Memory.get?_nil (i : Nat) : Memory.get? [] i = none := rfl

@[simp] theorem Memory.get?_set_same (m : Memory) (i : Nat) (b : Byte) : Memory.get? (Memory.set m i b) i = some b := by
  induction m with
  | nil => simp [Memory.set, Memory.get?]
  | cons c rest ih =>
    obtain ⟨j, d⟩ := c
    simp only [Memory.set]
    split
    · simp [Memory.get?]
    · split
      · simp [Memory.get?]
      · have hji : ¬ j = i := by omega
        simp [Memory.get?, hji, ih]

theorem Memory.get?_set_other (m : Memory) (i j : Nat) (b : Byte) (h : j ≠ i) :
    Memory.get? (Memory.set m i b) j = Memory.get? m j := by
  induction m with
  | nil => simp [Memory.set, Memory.get?, Ne.symm h]
  | cons c rest ih =>
    obtain ⟨k, d⟩ := c
    simp only [Memory.set]
    split
    · simp [Memory.get?, Ne.symm h]
    · split
      · next hik => subst hik; simp [Memory.get?, Ne.symm h]
      · by_cases hk : k = j <;> simp [Memory.get?, hk, ih]

theorem Memory.wfFrom_set (m : Memory) (lo i : Nat) (b : Byte) (hlo : lo ≤ i) (hi : i < bufCap)
    (h : Memory.wfFrom lo m = true) : Memory.wfFrom lo (Memory.set m i b) = true := by
  induction m generalizing lo with
  | nil => simp [Memory.set, Memory.wfFrom, hlo, hi]
  | cons c rest ih =>
    obtain ⟨j, d⟩ := c
    simp only [Memory.wfFrom, Bool.and_eq_true, decide_eq_true_eq] at h
    obtain ⟨⟨h1, h2⟩, h3⟩ := h
    simp only [Memory.set]
    split
    · next hij => simp [Memory.wfFrom, hlo, hi, h2, h3, hij]
    · split
      · next hij => subst hij; simp [Memory.wfFrom, hlo, hi, h3]
      · simp only [Memory.wfFrom, Bool.and_eq_true, decide_eq_true_eq]
        exact ⟨⟨h1, h2⟩, ih (j + 1) (by omega) h3⟩

/-- A write inside the buffer keeps the canonical form. -/
theorem Memory.wf_set (m : Memory) (i : Nat) (b : Byte) (hi : i < bufCap) (h : Memory.wf m = true) :
    Memory.wf (Memory.set m i b) = true :=
  Memory.wfFrom_set m 0 i b (Nat.zero_le i) hi h

theorem Memory.keys_ofBytesFrom (s : List Byte) (k : Nat) :
    (Memory.ofBytesFrom k s).map Prod.fst = List.range' k s.length := by
  induction s generalizing k with
  | nil => rfl
  | cons b bs ih => simp [Memory.ofBytesFrom, ih, List.range'_succ]

/-- A stored sequence has a value exactly at the indices below its length. -/
theorem Memory.keys_ofBytes (s : List Byte) : (Memory.ofBytes s).map Prod.fst = List.range s.length := by
  rw [Memory.ofBytes, Memory.keys_ofBytesFrom, List.range_eq_range']

theorem Memory.get?_ofBytesFrom (s : List Byte) (k i : Nat) :
    Memory.get? (Memory.ofBytesFrom k s) i = if k ≤ i then s[i - k]? else none := by
  induction s generalizing k with
  | nil => simp [Memory.ofBytesFrom]
  | cons b bs ih =>
    simp only [Memory.ofBytesFrom, Memory.get?]
    by_cases hk : k = i
    · simp [hk]
    · rw [if_neg hk, ih]
      by_cases hlt : k ≤ i
      · have h1 : k + 1 ≤ i := by omega
        have h2 : i - k = (i - (k + 1)) + 1 := by omega
        rw [if_pos h1, if_pos hlt, h2, List.getElem?_cons_succ]
      · have h1 : ¬ k + 1 ≤ i := by omega
        rw [if_neg h1, if_neg hlt]

/-- A stored sequence reads back byte for byte, and reads as nothing beyond its end. -/
@[simp] theorem Memory.get?_ofBytes (s : List Byte) (i : Nat) : Memory.get? (Memory.ofBytes s) i = s[i]? := by
  simp [Memory.ofBytes, Memory.get?_ofBytesFrom]

theorem Memory.wfFrom_ofBytesFrom (s : List Byte) (k : Nat) (h : k + s.length ≤ bufCap) :
    Memory.wfFrom k (Memory.ofBytesFrom k s) = true := by
  induction s generalizing k with
  | nil => rfl
  | cons b bs ih =>
    simp only [List.length_cons] at h
    have hk : k < bufCap := by omega
    simp [Memory.ofBytesFrom, Memory.wfFrom, hk, ih (k + 1) (by omega)]

/-- A stored sequence that fits is in canonical form. -/
theorem Memory.wf_ofBytes (s : List Byte) (h : s.length ≤ bufCap) : Memory.wf (Memory.ofBytes s) = true :=
  Memory.wfFrom_ofBytesFrom s 0 (by omega)

@[simp] theorem Memory.length_bytesFrom (m : Memory) (d i n : Nat) : (Memory.bytesFrom m d i n).length = n := by
  induction n generalizing d i with
  | zero => rfl
  | succ n ih => simp [Memory.bytesFrom, ih]

@[simp] theorem Memory.length_bytes (m : Memory) (d n : Nat) : (Memory.bytes m d n).length = n :=
  Memory.length_bytesFrom m d 0 n

theorem Memory.getElem?_bytesFrom (m : Memory) (d i n j : Nat) (hj : j < n) :
    (Memory.bytesFrom m d i n)[j]? = some ((Memory.get? m (i + j)).getD (Config.freeByte (d + j))) := by
  induction n generalizing d i j with
  | zero => omega
  | succ n ih =>
    cases j with
    | zero => simp [Memory.bytesFrom]
    | succ j =>
      have := ih (d + 1) (i + 1) j (by omega)
      simp only [Memory.bytesFrom, List.getElem?_cons_succ, this]
      simp [Nat.add_assoc, Nat.add_comm 1 j]

/-- Byte j of an input sequence: the buffer's byte where it has one, else the free byte of its draw. -/
theorem Memory.getElem?_bytes (m : Memory) (d n j : Nat) (hj : j < n) :
    (Memory.bytes m d n)[j]? = some ((Memory.get? m j).getD (Config.freeByte (d + j))) := by
  have := Memory.getElem?_bytesFrom m d 0 n j hj
  simpa [Memory.bytes] using this

end Sys2Proof.Machine
end

