-- ==== Sys2Proof/Laws/PerInstr.lean ====
section
/-! SUPPORT. Facts about every command as syntax, one lemma per constructor. -/

namespace Sys2Proof.Laws.FieldsAreLegal

/-- The fields of a command pass the three checks of R101, and its word is made of them. -/
def Statement (i : Instr) : Prop := i.fields.wf = true ∧ fieldsOf (encode i) = i.fields

theorem crcgen : Statement .crcgen := ⟨by decide, by decide⟩
theorem crcchk : Statement .crcchk := ⟨by decide, by decide⟩
theorem sumgen : Statement .sumgen := ⟨by decide, by decide⟩
theorem sumchk : Statement .sumchk := ⟨by decide, by decide⟩
theorem sealCmd : Statement .sealCmd := ⟨by decide, by decide⟩
theorem unsealCmd : Statement .unsealCmd := ⟨by decide, by decide⟩
theorem openCmd : Statement .openCmd := ⟨by decide, by decide⟩
theorem xchg : Statement .xchg := ⟨by decide, by decide⟩
theorem decbill (src : Source) : Statement (.decbill src) := by cases src <;> exact ⟨by decide, by decide⟩
theorem deccoin (src : Source) : Statement (.deccoin src) := by cases src <;> exact ⟨by decide, by decide⟩
theorem decode (src : Source) : Statement (.decode src) := by cases src <;> exact ⟨by decide, by decide⟩
theorem scan : Statement .scan := ⟨by decide, by decide⟩

end Sys2Proof.Laws.FieldsAreLegal
end

