-- ==== Sys2Proof/Laws/Step.lean ====
section
/-! SUPPORT. What a step can do, said once: the block left alone, a Host access, or a reset. -/

namespace Sys2Proof.Machine

/-- The state a step works on: the event it takes is no longer pending. -/
def afterEvent (s : State) : State := { s with host := s.host.tail }

/-- A step with no event pending, or a pause. -/
theorem step_alone (s : State) (h : s.host = [] ∨ ∃ rest, s.host = .pause :: rest) :
    step s = .next (if s.busy then scanAdvance (afterEvent s) else afterEvent s) := by
  obtain h | ⟨rest, h⟩ := h
  · have he : afterEvent s = s := by cases s; simp_all [afterEvent]
    rw [he]
    simp [step, h, advance]
  · simp [step, h, react, advance, afterEvent]

/-- A step that is a Host read. -/
theorem step_read (s : State) (a : HostAddr) (rest : List HostEvent) (h : s.host = .read a :: rest) :
    step s = .next (hostRead a (afterEvent s)) := by simp [step, h, react, afterEvent]

/-- A step that is a Host write while BUSY = 1. -/
theorem step_write_busy (s : State) (a : HostAddr) (v : Word) (rest : List HostEvent) (h : s.host = .write a v :: rest)
    (hb : s.busy = true) :
    step s = .next (if locate a = .reg .ctrl then { afterEvent s with cancel := v.getLsbD 0 } else afterEvent s) := by
  simp [step, h, react, hostWrite, hb, writeReg, afterEvent]

/-- A step that is a CMD write while BUSY = 0. -/
theorem step_command (s : State) (a : HostAddr) (v : Word) (rest : List HostEvent) (h : s.host = .write a v :: rest)
    (hb : s.busy = false) (hl : locate a = .reg .cmd) : step s = accept v (afterEvent s) := by
  simp [step, h, react, hostWrite, hb, hl, afterEvent]

/-- A step that is any other Host write while BUSY = 0. -/
theorem step_write (s : State) (a : HostAddr) (v : Word) (rest : List HostEvent) (h : s.host = .write a v :: rest)
    (hb : s.busy = false) (hl : locate a ≠ .reg .cmd) : step s = .next (writeLocation v (afterEvent s) (locate a)) := by
  simp [step, h, react, hostWrite, hb, hl, afterEvent]

/-- A step that is a reset. -/
theorem step_reset (s : State) (rest : List HostEvent) (h : s.host = .reset :: rest) :
    step s = .next (resetBlock (afterEvent s)) := by simp [step, h, react, afterEvent]

/-- A step that is a reset in the middle of the block's work. -/
theorem step_resetDuring (s : State) (w : Word) (cut : Nat) (rest : List HostEvent) (h : s.host = .resetDuring w cut :: rest) :
    ∃ u, ((s.busy = true ∧ u = scanAdvance (afterEvent s)) ∨ (s.busy = false ∧ accept w (afterEvent s) = .next u)) ∧
      step s = .next (abandon (afterEvent s) u cut) := by
  have hs : step s = resetDuring w cut (afterEvent s) := by simp [step, h, react, afterEvent]
  have hbusy : (afterEvent s).busy = s.busy := rfl
  rw [hs, resetDuring, hbusy]
  cases hb : s.busy with
  | true => exact ⟨_, .inl ⟨rfl, rfl⟩, rfl⟩
  | false =>
    obtain ⟨u, hu⟩ := accept_next w (afterEvent s)
    exact ⟨u, .inr ⟨rfl, hu⟩, by simp [hu]⟩

/-- Everything a step can do. -/
theorem step_cases (s t : State) (h : step s = .next t) :
    (s.busy = false ∧ t = afterEvent s) ∨
    (s.busy = true ∧ (s.host = [] ∨ ∃ rest, s.host = .pause :: rest) ∧ t = scanAdvance (afterEvent s)) ∨
    (∃ a rest, s.host = .read a :: rest ∧ t = hostRead a (afterEvent s)) ∨
    (s.busy = true ∧ ((∃ c, t = { afterEvent s with cancel := c }) ∨ t = afterEvent s) ∧ ∃ a v rest, s.host = .write a v :: rest) ∨
    (s.busy = false ∧ ∃ a v rest, s.host = .write a v :: rest ∧ locate a = .reg .cmd ∧ accept v (afterEvent s) = .next t) ∨
    (s.busy = false ∧ ∃ a v rest, s.host = .write a v :: rest ∧ locate a ≠ .reg .cmd ∧
      t = writeLocation v (afterEvent s) (locate a)) ∨
    (∃ rest, s.host = .reset :: rest ∧ t = resetBlock (afterEvent s)) ∨
    (∃ w cut rest u, s.host = .resetDuring w cut :: rest ∧
      ((s.busy = true ∧ u = scanAdvance (afterEvent s)) ∨ (s.busy = false ∧ accept w (afterEvent s) = .next u)) ∧
      t = abandon (afterEvent s) u cut) := by
  have alone : (s.host = [] ∨ ∃ rest, s.host = .pause :: rest) →
      (s.busy = false ∧ t = afterEvent s) ∨
      (s.busy = true ∧ (s.host = [] ∨ ∃ rest, s.host = .pause :: rest) ∧ t = scanAdvance (afterEvent s)) := by
    intro hp
    rw [step_alone s hp] at h
    cases hb : s.busy <;> simp only [hb, if_true, if_false, Bool.false_eq_true] at h <;> cases h
    · exact .inl ⟨rfl, rfl⟩
    · exact .inr ⟨rfl, hp, rfl⟩
  rcases hh : s.host with _ | ⟨e, rest⟩
  · rcases alone (.inl hh) with h | ⟨h1, -, h2⟩
    · exact .inl h
    · exact .inr (.inl ⟨h1, .inl rfl, h2⟩)
  · cases e with
    | pause =>
      rcases alone (.inr ⟨rest, hh⟩) with h | ⟨h1, -, h2⟩
      · exact .inl h
      · exact .inr (.inl ⟨h1, .inr ⟨rest, rfl⟩, h2⟩)
    | read a =>
      rw [step_read s a rest hh] at h
      cases h
      exact .inr (.inr (.inl ⟨a, rest, rfl, rfl⟩))
    | write a v =>
      cases hb : s.busy with
      | true =>
        rw [step_write_busy s a v rest hh hb] at h
        refine .inr (.inr (.inr (.inl ⟨rfl, ?_, a, v, rest, rfl⟩)))
        split at h <;> cases h
        · exact .inl ⟨_, rfl⟩
        · exact .inr rfl
      | false =>
        by_cases hl : locate a = .reg .cmd
        · rw [step_command s a v rest hh hb hl] at h
          exact .inr (.inr (.inr (.inr (.inl ⟨rfl, a, v, rest, rfl, hl, h⟩))))
        · rw [step_write s a v rest hh hb hl] at h
          cases h
          exact .inr (.inr (.inr (.inr (.inr (.inl ⟨rfl, a, v, rest, rfl, hl, rfl⟩)))))
    | reset =>
      rw [step_reset s rest hh] at h
      cases h
      exact .inr (.inr (.inr (.inr (.inr (.inr (.inl ⟨rest, rfl, rfl⟩))))))
    | resetDuring w cut =>
      obtain ⟨u, hu, hs⟩ := step_resetDuring s w cut rest hh
      rw [hs] at h
      cases h
      exact .inr (.inr (.inr (.inr (.inr (.inr (.inr ⟨w, cut, rest, u, rfl, hu, rfl⟩))))))

/-- A reset in the middle of the work leaves the reset state beside the outside world. -/
theorem abandon_eq (s t : State) (cut : Nat) :
    abandon s t cut = { State.reset with
      ser := (abandon s t cut).ser, host := s.host, rdata := s.rdata, draws := t.draws } := rfl

/-- A run takes one step after the other. -/
theorem run_succ (k : Nat) (s t : State) (h : step s = .next t) :
    Host.Core.run Sys2Proof.core (k + 1) s = Host.Core.run Sys2Proof.core k t := by
  have hs : Sys2Proof.core.step s = .next t := h
  simp only [Host.Core.run, hs]

end Sys2Proof.Machine
end

