-- ==== Sys2Proof/Tests/Slice0.lean ====
section
/-! SUPPORT. Tests of the model against words and vectors written out from the spec (30_encoding.md R102, 95_test_vectors.md), and
for each obligation with hypotheses a concrete witness that meets them. -/

namespace Sys2Proof.Tests

open Sys2Proof.Machine

/-! Well-formedness: one ill-formed term for each check (R101) -/

theorem test_wf_accepts : ({ rsv := 0#7, s := true, opc := 0x42#8 } : CommandFields).wf = true := by decide

theorem test_wf_refuses_reserved_bits : ({ rsv := 1#7, s := false, opc := 0x10#8 } : CommandFields).wf = false := by decide

theorem test_wf_refuses_unlisted_opcode : ({ rsv := 0#7, s := false, opc := 0x43#8 } : CommandFields).wf = false := by decide

theorem test_wf_refuses_source_bit : ({ rsv := 0#7, s := true, opc := 0x10#8 } : CommandFields).wf = false := by decide

/-! Decoding: each command's word, bit by bit from R100 and R102: RSV, S, OPC -/

theorem test_decode_crcgen : decode 0b0000000_0_00010000#16 = .ok .crcgen := by decide
theorem test_decode_crcchk : decode 0b0000000_0_00010001#16 = .ok .crcchk := by decide
theorem test_decode_sumgen : decode 0b0000000_0_00010010#16 = .ok .sumgen := by decide
theorem test_decode_sumchk : decode 0b0000000_0_00010011#16 = .ok .sumchk := by decide
theorem test_decode_seal : decode 0b0000000_0_00100000#16 = .ok .sealCmd := by decide
theorem test_decode_unseal : decode 0b0000000_0_00100001#16 = .ok .unsealCmd := by decide
theorem test_decode_open : decode 0b0000000_0_00110000#16 = .ok .openCmd := by decide
theorem test_decode_xchg : decode 0b0000000_0_00110001#16 = .ok .xchg := by decide
theorem test_decode_decbill : decode 0b0000000_0_01000000#16 = .ok (.decbill .ibuf) := by decide
theorem test_decode_decbill_o : decode 0b0000000_1_01000000#16 = .ok (.decbill .obuf) := by decide
theorem test_decode_deccoin : decode 0b0000000_0_01000001#16 = .ok (.deccoin .ibuf) := by decide
theorem test_decode_deccoin_o : decode 0b0000000_1_01000001#16 = .ok (.deccoin .obuf) := by decide
theorem test_decode_decode : decode 0b0000000_0_01000010#16 = .ok (.decode .ibuf) := by decide
theorem test_decode_decode_o : decode 0b0000000_1_01000010#16 = .ok (.decode .obuf) := by decide
theorem test_decode_scan : decode 0b0000000_0_01010000#16 = .ok .scan := by decide

/-- The illegal words of 95_test_vectors.md section 2.7. -/
theorem test_decode_illegal :
    [0x0000#16, 0x0110#16, 0x0131#16, 0x0150#16, 0x0243#16, 0x0210#16, 0x0043#16, 0x0022#16, 0x0032#16, 0x0051#16, 0x00FF#16,
      0xFFFF#16].all (fun w => match decode w with
        | .ok _ => false
        | .error _ => true) = true := by decide

theorem test_table_word : decodeTableWord 16 0x0142 = some (.decode .obuf) := by decide

/-! States -/

/-- The reset state with bytes in IBUF and ILEN their number. -/
def withInput (b : List Byte) : State := { State.reset with ibuf := Memory.ofBytes b, ilen := BitVec.ofNat 9 b.length }

/-- The reset state with ILEN alone. -/
def atLength (n : Nat) : State := { State.reset with ilen := BitVec.ofNat 9 n }

/-- An open session (40, m, 1000) with HDR = h and the answers of the Peer. -/
def session (m : BitVec 2) (h : Byte) (answers : List (List Byte)) : State :=
  { State.reset with
    sess := .idle, saddr := 40#8, smode := m, stmo := 1000#16, hdr := h
    ser := { answers := answers, trace := [], draws := 0 } }

/-- A SCAN of the session (40, 1, 1000) under way at SCANTMO = 50, before probe j. -/
def sweeping (j : Nat) (answers : List (List Byte)) : State :=
  { session 1#2 0#8 answers with
    busy := true, scantmo := 50#16, stmo := 50#16, scanpos := BitVec.ofNat 10 j
    saveAddr := 40#8, saveMode := 1#2, saveTmo := 1000#16 }

/-- The reset state with one event pending. -/
def facing (e : HostEvent) : State := { State.reset with host := [e] }

/-- The state a command reaches. -/
def after (i : Instr) (s : State) : State :=
  match exec i s with
  | .next t => t
  | .fault _ => s
  | .refused _ => s

/-! Commands, with the vectors of 95_test_vectors.md section 2 -/

theorem test_crcgen : (after .crcgen (withInput [49, 50, 51, 52, 53, 54, 55, 56, 57])).res = 0x31C3#16 := by decide

theorem test_crcgen_too_long : (after .crcgen (atLength 261)).rc = .lengthError := by decide

theorem test_crcchk_swapped :
    let t := after .crcchk { withInput [1, 2, 0, 31, 0] with arg := 0x7454#16 }
    t.rc = .integrityMismatch ∧ t.v = false ∧ t.res = 0x5474#16 := by decide

theorem test_crcchk_empty : (after .crcchk (atLength 0)).v = true := by decide

theorem test_sumgen : (after .sumgen (withInput [1, 2, 1, 0, 31, 0])).res = 221#16 := by decide

theorem test_sumgen_sum_of_256 : (after .sumgen (withInput [128, 128])).res = 0#16 := by decide

theorem test_sumchk_ignores_high_byte :
    let t := after .sumchk { withInput [40, 0, 1, 159] with arg := 0x0138#16 }
    t.rc = .ok ∧ t.v = true ∧ t.res = 56#16 := by decide

theorem test_sumchk_wrong :
    let t := after .sumchk { withInput [40, 0, 1, 159] with arg := 57#16 }
    t.rc = .integrityMismatch ∧ t.v = false := by decide

theorem test_seal_crc16 :
    let t := after .sealCmd { withInput [255, 255] with mode := 1#2, addr := 40#8, hdr := 231#8 }
    t.obuf = Memory.ofBytes [40, 2, 95, 231, 255, 255, 223] ∧ t.olen = 7#9 := by decide

theorem test_seal_sum8 :
    let t := after .sealCmd { withInput [255, 255] with mode := 2#2, addr := 40#8, hdr := 231#8 }
    t.obuf = Memory.ofBytes [40, 2, 1, 231, 255, 255, 240] ∧ t.olen = 7#9 := by decide

theorem test_unseal_sum8_keeps_two_bytes :
    let t := after .unsealCmd { withInput [7, 8, 241] with mode := 2#2 }
    t.obuf = Memory.ofBytes [7, 8] ∧ t.rc = .ok ∧ t.v = true := by decide

theorem test_unseal_crc16_too_short :
    let t := after .unsealCmd { withInput [1, 0, 0, 0] with mode := 1#2 }
    t.obuf = Memory.ofBytes [1, 0, 0, 0] ∧ t.rc = .malformed ∧ t.v = false := by decide

theorem test_open :
    let t := after .openCmd { State.reset with addr := 40#8, mode := 1#2, tmo := 1000#16 }
    statusWord t = 0x0002#16 ∧ t.saddr = 40#8 ∧ t.smode = 1#2 ∧ t.stmo = 1000#16 := by decide

theorem test_open_failed_closes :
    let t := after .openCmd { session 1#2 0#8 [] with addr := 40#8, mode := 3#2 }
    statusWord t = 0x0040#16 ∧ t.saddr = 40#8 ∧ t.smode = 1#2 := by decide

/-- Case e2: no echo, a longer response. -/
theorem test_xchg_response :
    let t := after .xchg (session 1#2 159#8 [[], [1, 11], [20, 0, 3, 5, 0, 0, 0, 0, 0, 0, 0, 0, 0, 5]])
    statusWord t = 0x000E#16 ∧ t.obuf = Memory.ofBytes [3, 5, 0, 0, 0, 0, 0, 0, 0, 0, 0] ∧ t.raddr = 1#8 ∧ t.ecnt = 0#9 ∧
    t.ser.trace = [.flush, .write [40, 0, 49, 159, 93], .read 5 1000#16, .read 2 1000#16, .read 14 1000#16] := by decide

/-- Case e1: no echo, and no more bytes than were written. -/
theorem test_xchg_no_response :
    let t := after .xchg (session 1#2 159#8 [[], [1, 0], [48, 0, 55]])
    statusWord t = 0x001A#16 ∧ t.olen = 0#9 ∧ t.raddr = 0#8 ∧ t.ecnt = 0#9 := by decide

theorem test_decbill :
    let t := after (.decbill .ibuf) (withInput [200, 0, 22, 0, 255, 255, 0, 255, 1, 255, 2, 99, 99])
    t.evcnt = 200#8 ∧ t.evkind = .bill ∧ t.evt = #v[{ cat := .fraudAttempt, ra := 0, rb := 22, route := .na },
      { cat := .fraudAttempt, ra := 0, rb := 255, route := .na }, { cat := .credit, ra := 255, rb := 0, route := .cashbox },
      { cat := .credit, ra := 255, rb := 1, route := .escrow }, { cat := .credit, ra := 255, rb := 2, route := .unknown }] := by
  decide

/-- The two rows of section 2.5 that have every category of code, REJECT among them. -/
theorem test_decbill_codes :
    let r := after (.decbill .ibuf) (withInput [1, 0, 0, 0, 1, 0, 2, 0, 3, 0, 4])
    let t := after (.decbill .ibuf) (withInput [5, 0, 9, 0, 10, 0, 19, 0, 20, 0, 18])
    (r.evt[0]).cat = .status ∧ (r.evt[1]).cat = .status ∧ (r.evt[2]).cat = .reject ∧ (r.evt[3]).cat = .reject ∧
    (r.evt[4]).cat = .status ∧
    (t.evt[0]).cat = .fraudAttempt ∧ (t.evt[1]).cat = .status ∧ (t.evt[2]).cat = .fatalError ∧ (t.evt[3]).cat = .status ∧
    (t.evt[4]).cat = .fraudAttempt := by decide

/-- All five coins are credits here, so the OPEN `COIN_CAT` is not asked. -/
theorem test_deccoin :
    let t := after (.deccoin .ibuf) (withInput [7, 2, 1, 3, 0, 255, 255, 4, 4, 5, 5])
    t.evcnt = 7#8 ∧ t.evkind = .coin ∧ t.evt[2] = { cat := .credit, ra := 255, rb := 255, route := .na } := by decide

theorem test_deccoin_status_is_the_open_table (b : Byte) : classifyCoin 0#8 b = (codeCategory (Config.coinCat b), .na) := rfl

theorem test_decode_no_event_comes_first :
    (after (.decode .ibuf) { atLength 300 with hdr := 254#8 }).rc = .notEvent := by decide

theorem test_decode_from_obuf :
    let t := after (.decode .obuf) { atLength 261 with hdr := 159#8, obuf := Memory.ofBytes [3, 5, 0], olen := 3#9 }
    t.rc = .ok ∧ t.evcnt = 3#8 ∧ t.evt[0] = { cat := .credit, ra := 5, rb := 0, route := .cashbox } := by decide

theorem test_scan_cancelled_before :
    let t := after .scan { session 1#2 0#8 [] with cancel := true, scantmo := 50#16 }
    t.rc = .cancelled ∧ t.busy = false ∧ t.devn = 0#10 ∧ t.scanpos = 0#10 ∧ t.ser.trace = [] ∧ t.stmo = 1000#16 ∧
    t.cancel = false := by decide

/-- The probe of (7, SUM8) that is answered, section 1.7. -/
theorem test_scan_probe :
    let t := scanProbe (sweeping 15 [[7, 0, 1, 254, 250], [1, 0], [7, 0, 248], [7, 0, 1, 246, 2], [1, 3], [7, 0, 65, 66, 67, 47]])
    t.devtab = [{ address := 7, mode := .sum8, name := [65, 66, 67] }] ∧ t.devn = 1#10 ∧ t.scanpos = 16#10 ∧
    t.smode = 2#2 := by decide

/-! Host accesses, 95_test_vectors.md section 2.8 -/

/-- The state a step reaches. -/
def stepped (s : State) : State :=
  match step s with
  | .next t => t
  | .fault _ => s
  | .refused _ => s

theorem test_write_truncates : (stepped (facing (.write 0x004#11 7#16))).mode = 3#2 := by decide

theorem test_read_event_index : (stepped (facing (.read 0x510#11))).rdata = 3#16 := by decide

theorem test_map_edges :
    [0x019#11, 0x01A#11, 0x0FF#11, 0x100#11, 0x203#11, 0x204#11, 0x300#11, 0x403#11, 0x404#11, 0x505#11, 0x524#11, 0x528#11,
      0x600#11, 0x6FE#11, 0x6FF#11].map locate =
    [.reg .evkind, .unmapped, .unmapped, .ibuf 0, .ibuf 259, .unmapped, .obuf 0, .obuf 259, .unmapped, .unmapped, .evt 4 .route,
      .unmapped, .devname 0, .devname 254, .unmapped] := by decide

theorem test_fetch_word : step (State.withFetchWord State.reset 16 0x0010) = exec .crcgen { State.reset with busy := true } := rfl

/-! Witnesses: for each obligation that has hypotheses, a state and operands that meet them -/

theorem witness_LegalWordsAreTheFifteenListed : decode 0x0142#16 = .ok (.decode .obuf) := by decide

theorem witness_DecodeAndEncodeAgree : Instr.wf (.decode .obuf) = true ∧ decode 0x0142#16 = .ok (.decode .obuf) := by decide

theorem witness_WordsAreTestedInOrder :
    (0x0210#16).extractLsb' 9 7 ≠ 0#7 ∧
    ((0x0143#16).extractLsb' 9 7 = 0#7 ∧ (0x0143#16).extractLsb' 0 8 ∉ opcodesWithoutSource ++ opcodesWithSource) ∧
    ((0x0110#16).extractLsb' 9 7 = 0#7 ∧ (0x0110#16).extractLsb' 0 8 ∈ opcodesWithoutSource ∧ (0x0110#16).getLsbD 8 = true) ∧
    ((0x0010#16).extractLsb' 9 7 = 0#7 ∧ (0x0010#16).extractLsb' 0 8 ∈ opcodesWithoutSource ∧ (0x0010#16).getLsbD 8 = false) ∧
    ((0x0142#16).extractLsb' 9 7 = 0#7 ∧ (0x0142#16).extractLsb' 0 8 ∈ opcodesWithSource) := by decide

theorem witness_IllegalWordOnlySetsResultCode :
    (facing (.write 0x000#11 0x0131#16)).host = .write 0x000#11 0x0131#16 :: [] ∧
    (facing (.write 0x000#11 0x0131#16)).busy = false ∧
    0x0131#16 ∉ [0x0010#16, 0x0011#16, 0x0012#16, 0x0013#16, 0x0020#16, 0x0021#16, 0x0030#16, 0x0031#16, 0x0040#16, 0x0140#16,
      0x0041#16, 0x0141#16, 0x0042#16, 0x0142#16, 0x0050#16] := by decide

theorem witness_AcceptedWordRunsItsCommand :
    (facing (.write 0x000#11 0x0031#16)).host = .write 0x000#11 0x0031#16 :: [] ∧
    (facing (.write 0x000#11 0x0031#16)).busy = false ∧ decode 0x0031#16 = .ok .xchg := by decide

theorem witness_BusyBlockTakesOnlyControlWrites :
    ({ sweeping 4 [] with host := [.write 0x002#11 1#16] }).busy = true ∧
    ({ sweeping 4 [] with host := [.write 0x002#11 1#16] }).host = .write 0x002#11 1#16 :: [] ∧
    ({ sweeping 4 [] with host := [.write 0x000#11 0x0030#16] }).host = .write 0x000#11 0x0030#16 :: [] ∧
    ({ sweeping 4 [] with host := [.read 0x001#11] }).host = .read 0x001#11 :: [] := by decide

/-- The unmapped address above IBUF, and the last address of the space. -/
theorem witness_UnmappedAndReadOnlyWritesChangeNothing :
    (facing (.write 0x204#11 5#16)).busy = false ∧ (facing (.write 0x204#11 5#16)).host = .write 0x204#11 5#16 :: [] ∧
    0x204#11 ∉ [0x000#11, 0x002#11, 0x003#11, 0x004#11, 0x005#11, 0x006#11, 0x007#11, 0x008#11, 0x009#11, 0x014#11] ∧
    ¬ (0x100 ≤ (0x204#11).toNat ∧ (0x204#11).toNat ≤ 0x203) ∧
    ¬ (0x100 ≤ (0x0FF#11).toNat ∧ (0x0FF#11).toNat ≤ 0x203) ∧
    (facing (.read 0x7FF#11)).host = .read 0x7FF#11 :: [] := by decide

theorem witness_RegisterWritesTruncate :
    ∀ a ∈ [0x002#11, 0x003#11, 0x004#11, 0x005#11, 0x006#11, 0x007#11, 0x008#11, 0x009#11, 0x014#11],
      (facing (.write a 0xFFFF#16)).busy = false ∧ (facing (.write a 0xFFFF#16)).host = .write a 0xFFFF#16 :: [] := by decide

theorem witness_BufferWriteStoresOneByte :
    0 < 260 ∧ (facing (.write 0x100#11 0x1AB#16)).host = .write (BitVec.ofNat 11 (0x100 + 0)) 0x1AB#16 :: [] ∧
    259 < 260 ∧ (facing (.write 0x203#11 0x1AB#16)).host = .write (BitVec.ofNat 11 (0x100 + 259)) 0x1AB#16 :: [] ∧
    (facing (.write 0x203#11 0x1AB#16)).busy = false ∧ Memory.wf (facing (.write 0x203#11 0x1AB#16)).ibuf = true := by decide

/-- A state with one device found, whose name has the greatest length, and a read of an address pending. -/
def oneDevice (a : HostAddr) : State :=
  { State.reset with
    host := [.read a], devn := 1#10, scanpos := 510#10
    devtab := [{ address := 7#8, mode := .sum8, name := List.replicate 255 65#8 }] }

theorem witness_RegisterReadsZeroExtend (a : HostAddr) :
    (oneDevice a).busy = false ∧ (oneDevice a).host = .read a :: [] ∧
    step (oneDevice a) = .next (hostRead a { oneDevice a with host := [] }) ∧
    (oneDevice a).devsel.toNat < (oneDevice a).devn.toNat ∧
    (oneDevice a).devtab[(oneDevice a).devsel.toNat]? =
      some { address := 7#8, mode := .sum8, name := List.replicate 255 65#8 } ∧
    (List.replicate 255 65#8).length ≤ 255 := by
  exact ⟨rfl, rfl, rfl, Nat.zero_lt_one, rfl, List.length_replicate.le⟩

/-- A state whose buffers hold a byte at their first and last index, and a read of an address pending. -/
def edgeBytes (a : HostAddr) : State :=
  { oneDevice a with ibuf := [(0, 1#8), (259, 2#8)], obuf := [(0, 3#8), (259, 4#8)] }

theorem witness_WindowReadsShowTheBytes (a : HostAddr) :
    (edgeBytes a).busy = false ∧ (edgeBytes a).host = .read a :: [] ∧
    step (edgeBytes a) = .next (hostRead a { edgeBytes a with host := [] }) ∧
    Memory.get? (edgeBytes a).ibuf 0 = some 1#8 ∧ Memory.get? (edgeBytes a).ibuf 259 = some 2#8 ∧
    Memory.get? (edgeBytes a).obuf 0 = some 3#8 ∧ Memory.get? (edgeBytes a).obuf 259 = some 4#8 ∧
    (0x100#11).toNat = 0x100 + 0 ∧ (0x203#11).toNat = 0x100 + 259 ∧ (0x300#11).toNat = 0x300 + 0 ∧
    (0x403#11).toNat = 0x300 + 259 ∧ (0x500#11).toNat = 0x500 + 8 * (0 : Fin 5).val ∧
    (0x524#11).toNat = 0x500 + 8 * (4 : Fin 5).val + 4 ∧ (0x600#11).toNat = 0x600 + 0 ∧ (0x6FE#11).toNat = 0x600 + 254 := by
  exact ⟨rfl, rfl, rfl, rfl, rfl, rfl, rfl, rfl, rfl, rfl, rfl, rfl, rfl, rfl, rfl⟩

theorem witness_WindowReadsShowTheBytes_name :
    (edgeBytes 0x6FE#11).devsel.toNat < (edgeBytes 0x6FE#11).devn.toNat ∧
    (List.replicate 255 65#8)[0]? = some 65#8 ∧ (List.replicate 255 65#8)[254]? = some 65#8 := by
  refine ⟨by decide, ?_, ?_⟩ <;> rw [List.getElem?_replicate] <;> rfl

theorem witness_StatusWordHasItsFields :
    (facing (.write 0x001#11 0xFFFF#16)).host = .write 0x001#11 0xFFFF#16 :: [] := by decide

theorem witness_InputsAreTheBufferBytes :
    let s : State := { withInput [9, 8] with obuf := Memory.ofBytes [7], olen := 1#9 }
    1 < s.ilen.toNat ∧ Memory.get? s.ibuf 1 = some 8#8 ∧ 0 < s.olen.toNat ∧ Memory.get? s.obuf 0 = some 7#8 := by decide

theorem witness_ResetLeavesTheSerialSide : (facing .reset).host = .reset :: [] := by decide

theorem witness_ResetAbandonsWorkInFlight :
    ({ sweeping 4 [] with host := [.resetDuring 0#16 3] }).host = .resetDuring 0#16 3 :: [] ∧
    ({ sweeping 4 [] with host := [.resetDuring 0#16 3] }).busy = true ∧
    ({ session 1#2 159#8 [] with host := [.resetDuring 0x0031#16 2] }).host = .resetDuring 0x0031#16 2 :: [] ∧
    ({ session 1#2 159#8 [] with host := [.resetDuring 0x0031#16 2] }).busy = false := by decide

theorem witness_CrcgenWritesTheCrc : 260 < (atLength 261).ilen.toNat ∧ (atLength 260).ilen.toNat ≤ 260 := by decide

theorem witness_CrcchkComparesWithArg :
    260 < (atLength 261).ilen.toNat ∧
    (let s : State := { withInput [1, 2, 0, 31, 0] with arg := 0x5474#16 }
     s.ilen.toNat ≤ 260 ∧ crc16 (ibufInput s) = s.arg) ∧
    (let s : State := { withInput [1, 2, 0, 31, 0] with arg := 0x5475#16 }
     s.ilen.toNat ≤ 260 ∧ crc16 (ibufInput s) ≠ s.arg) := by decide

theorem witness_SumgenWritesTheChecksum : 260 < (atLength 261).ilen.toNat ∧ (atLength 260).ilen.toNat ≤ 260 := by decide

theorem witness_SumchkMakesBothTests :
    260 < (atLength 261).ilen.toNat ∧
    (let s : State := { withInput [40, 0, 1, 159] with arg := 0x0138#16 }
     s.ilen.toNat ≤ 260 ∧ 56#8 = s.arg.extractLsb' 0 8 ∧ checksum8 (ibufInput s) = 56#8 ∧
     (sumBytes (ibufInput s) + (56#8).toNat) % 256 = 0) ∧
    (let s : State := { withInput [40, 0, 1, 159] with arg := 57#16 }
     s.ilen.toNat ≤ 260 ∧ 57#8 = s.arg.extractLsb' 0 8 ∧ checksum8 (ibufInput s) ≠ 57#8) := by decide

theorem witness_UnsealUndoesSeal : ([31, 0] : List Byte).length ≤ 255 ∧ (List.replicate 255 7#8).length ≤ 255 :=
  ⟨by decide, List.length_replicate.le⟩

theorem witness_UnsealFollowsTheParserRules :
    ([1, 0, 0, 0] : List Byte).length < 5 ∧ ([0] : List Byte) ≠ [] ∧ ([5] : List Byte).length < 2 := by decide

theorem witness_AllZeroFramesPassTheCrc : 5 ≤ 5 := by decide

theorem witness_SealPutsTheFrameInObuf :
    (State.reset.mode = 0#2) ∧ ({ State.reset with mode := 3#2 }).mode = 3#2 ∧
    (let s : State := { atLength 256 with mode := 1#2 }
     s.mode = 1#2 ∧ 255 < s.ilen.toNat) ∧
    (let s : State := { atLength 255 with mode := 2#2 }
     s.mode = 2#2 ∧ s.ilen.toNat ≤ 255) := by decide

theorem witness_UnsealPutsTheStrippedFrameInObuf :
    (State.reset.mode = 0#2) ∧ ({ State.reset with mode := 3#2 }).mode = 3#2 ∧
    (let s : State := { atLength 261 with mode := 1#2 }
     s.mode = 1#2 ∧ 260 < s.ilen.toNat) ∧
    (let s : State := { atLength 260 with mode := 2#2 }
     s.mode = 2#2 ∧ s.ilen.toNat ≤ 260) := by decide

theorem witness_OpenConstructsTheSession :
    State.reset.mode = 0#2 ∧ ({ State.reset with mode := 1#2 }).addr = 0#8 ∧
    (let s : State := { State.reset with mode := 2#2, addr := 255#8 }
     s.mode = 2#2 ∧ s.addr ≠ 0#8) := by decide

/-- Case a of section 2.4. -/
theorem witness_ResponseIsCutFromTheFrame :
    (exchange 40 .crc16 1000#16 159 []
      { answers := [[40, 0, 49, 159, 93], [1, 11], [20, 0, 3, 5, 0, 0, 0, 0, 0, 0, 0, 0, 0, 5]], trace := [], draws := 0 }).response =
    some { raddr := 1, rhdr := 0, payload := [3, 5, 0, 0, 0, 0, 0, 0, 0, 0, 0], valid := true } := by decide

theorem witness_XchgRecordsTheExchange :
    State.reset.sess = .closed ∧
    (let s : State := { session 1#2 159#8 [] with ilen := 256#9 }
     s.sess = .idle ∧ 255 < s.ilen.toNat) ∧
    (let s := session 1#2 159#8 [[40, 0, 49, 159, 93], []]
     s.sess = .idle ∧ s.ilen.toNat ≤ 255 ∧
     (exchange s.saddr (if s.smode = 1#2 then .crc16 else .sum8) s.stmo s.hdr (ibufInput s) s.ser).response = none) ∧
    (let s := session 1#2 159#8 [[40, 0, 49, 159, 93], [1, 0], [48, 0, 55]]
     s.sess = .idle ∧ s.ilen.toNat ≤ 255 ∧
     (exchange s.saddr (if s.smode = 1#2 then .crc16 else .sum8) s.stmo s.hdr (ibufInput s) s.ser).response =
       some { raddr := 1, rhdr := 0, payload := [], valid := true }) := by decide

theorem witness_PairsAreReadWholeOrAsZero :
    ([9] : List Byte)[0]? = some 9#8 ∧ 2 * 1 + 1 ≤ ([9, 1, 0] : List Byte).length ∧ ([9, 1] : List Byte).length < 2 * 1 + 1 ∧
    2 * 5 + 1 ≤ ([9, 0, 0, 0, 0, 0, 0, 0, 0, 1, 2] : List Byte).length ∧
    ([9, 0, 0, 0, 0, 0, 0, 0, 0, 1] : List Byte).length < 2 * 5 + 1 := by decide

theorem witness_BillCodesArePartitioned :
    (20#8).toNat ∈ [0, 1, 4, 5, 10, 11, 12, 14, 20, 21] ∧ (2#8).toNat ∈ [2, 3] ∧ (13#8).toNat ∈ [6, 7, 13, 15, 16, 19] ∧
    (17#8).toNat ∈ [8, 9, 17, 18] ∧ 22 ≤ (22#8).toNat := by decide

/-- A bill credit at each end of A, and B at the edges of its three routes. -/
theorem witness_PairsAreClassified :
    (1#8 : Byte) ≠ 0#8 ∧ (255#8 : Byte) ≠ 0#8 ∧ classifyBill 1#8 0#8 = (.credit, .cashbox) ∧
    classifyBill 255#8 1#8 = (.credit, .escrow) ∧ classifyBill 255#8 2#8 = (.credit, .unknown) ∧
    classifyCoin 255#8 255#8 = (.credit, .na) := by decide

theorem witness_DecbillWritesFiveRecords :
    260 < (atLength 261).ilen.toNat ∧ (atLength 260).ilen.toNat ≤ 260 ∧ ibufInput (atLength 0) = [] ∧
    obufInput { State.reset with obuf := Memory.ofBytes [3, 5, 0], olen := 3#9 } = [3, 5, 0] := by decide

theorem witness_DeccoinWritesFiveRecords :
    260 < (atLength 261).ilen.toNat ∧ (atLength 260).ilen.toNat ≤ 260 ∧ ibufInput (withInput [7, 2, 1]) = [7, 2, 1] ∧
    obufInput { State.reset with obuf := Memory.ofBytes [7, 2, 1], olen := 3#9 } = [7, 2, 1] := by decide

theorem witness_DecodeSelectsByHeader :
    (let s : State := { atLength 260 with hdr := 159#8 }
     s.hdr = 159#8 ∧ s.ilen.toNat ≤ 260) ∧
    (let s : State := { atLength 260 with hdr := 229#8 }
     s.hdr = 229#8 ∧ s.ilen.toNat ≤ 260) ∧
    State.reset.hdr ≠ 159#8 ∧ State.reset.hdr ≠ 229#8 := by decide

theorem witness_ProbeSequenceCoversTheBus :
    0 < 255 ∧ 254 < 255 ∧ 3 ≤ 39 ∧ 39 ≤ 39 ∧ 40 ≤ 40 ∧ scanAddress 78 = 39#8 ∧ scanAddress 80 = 41#8 ∧ (255#8) ≠ 0#8 ∧
    509 < 510 := by decide

theorem witness_ScanStartsTheSweep :
    State.reset.sess = .closed ∧ (session 1#2 0#8 []).sess = .idle ∧ (session 1#2 0#8 []).cancel = false ∧
    ({ session 1#2 0#8 [] with cancel := true }).cancel = true := by decide

theorem witness_ScanStepProbesOrEnds :
    (State.reset.host = [] ∧ ([] : List HostEvent) = [] ∧ State.reset.busy = false) ∧
    ((facing .pause).host = .pause :: [] ∧ (facing .pause).busy = false) ∧
    ((sweeping 510 []).host = [] ∧ (sweeping 510 []).busy = true ∧ 510 ≤ (sweeping 510 []).scanpos.toNat) ∧
    (let s : State := { sweeping 4 [] with cancel := true }
     s.host = [] ∧ s.busy = true ∧ s.cancel = true) ∧
    (let s : State := { sweeping 510 [] with host := [.pause] }
     s.host = .pause :: [] ∧ s.busy = true ∧ 510 ≤ s.scanpos.toNat) ∧
    (let s : State := { sweeping 509 [[], []] with host := [.pause] }
     s.host = .pause :: [] ∧ s.busy = true ∧ s.scanpos.toNat < 510 ∧ s.cancel = false ∧
     (exchange 255 .sum8 s.stmo Config.simplePollHdr [] s.ser).response = none) ∧
    (let s : State := { sweeping 15 [[1, 2, 3, 4, 5], [1, 0], [7, 0, 248], [], []] with host := [.pause] }
     s.host = .pause :: [] ∧ s.busy = true ∧ s.scanpos.toNat < 510 ∧ s.cancel = false ∧
     (exchange 7 .sum8 s.stmo Config.simplePollHdr [] s.ser).response ≠ none) := by decide

/-- A SCAN that is cancelled at its issue, and one that is under way after its issue. -/
theorem witness_ScanRestoresTheSession :
    (let s : State := { session 1#2 0#8 [] with cancel := true, host := [.read 0x001#11] }
     s.sess = .idle ∧ exec .scan s = .next (scanFinish .cancelled (scanBegin s)) ∧
     (∀ e ∈ s.host, e.keepsRunning = true) ∧
     Host.Core.run Sys2Proof.core 0 (scanFinish .cancelled (scanBegin s)) = .next (scanFinish .cancelled (scanBegin s)) ∧
     (scanFinish .cancelled (scanBegin s)).busy = false) := by
  refine ⟨rfl, rfl, by decide, rfl, rfl⟩

/-- Issue, then a CTRL write, then the stop: two steps while BUSY = 1. -/
theorem witness_ScanRestoresTheSession_cancelled :
    let s : State := { session 1#2 0#8 [] with host := [.write 0x002#11 1#16] }
    exec .scan s = .next (scanBegin s) ∧ (∀ e ∈ s.host, e.keepsRunning = true) ∧
    Host.Core.run Sys2Proof.core 0 (scanBegin s) = .next (scanBegin s) ∧ (scanBegin s).busy = true ∧
    Host.Core.run Sys2Proof.core 1 (scanBegin s) = .next { scanBegin s with host := [], cancel := true } ∧
    Host.Core.run Sys2Proof.core 2 (scanBegin s) =
      .next (scanFinish .cancelled { scanBegin s with host := [], cancel := true }) := by
  refine ⟨rfl, by decide, rfl, rfl, rfl, rfl⟩

theorem witness_ScanEndsWithin511Steps : (sweeping 0 []).busy = true ∧ (sweeping 0 []).host = [] := by decide

theorem witness_UndisturbedScanIsTheSweepLoop :
    let s : State := { session 1#2 0#8 [] with host := [.write 0x000#11 0x0050#16] }
    s.sess = .idle ∧ s.busy = false ∧ s.cancel = false ∧ s.host = [.write 0x000#11 0x0050#16] := by decide

/-- A sweep that has found (7, SUM8), its probe 15. -/
theorem witness_DeviceTableKeepsProbeOrder :
    ProbeOrder { sweeping 16 [] with devn := 1#10, devtab := [{ address := 7#8, mode := .sum8, name := [] }] } := by
  show [((7#8 : Byte), IntegrityMode.sum8)].Sublist (scanSeq.take 16)
  decide

theorem witness_CommandsWriteOnlyTheirOutputs :
    exec .openCmd State.reset = .next (complete .configError { State.reset with sess := .closed }) ∧
    Field.saveAddr ∉ commandWrites .openCmd := by
  refine ⟨rfl, by decide⟩

theorem witness_ScanStepsWriteOnlyScanOutputs :
    (sweeping 510 []).busy = true ∧ (sweeping 510 []).host = [] ∧
    step (sweeping 510 []) = .next (scanFinish .ok (sweeping 510 [])) ∧ Field.res ∉ scanWrites := by
  refine ⟨rfl, rfl, rfl, by decide⟩

theorem witness_RefusedCommandsChangeOnlyRc :
    exec .xchg State.reset = .next (complete .notOpen State.reset) ∧ (complete .notOpen State.reset).busy = false ∧
    exec .crcgen (atLength 261) = .next (complete .lengthError (atLength 261)) ∧
    exec (.decode .ibuf) State.reset = .next (complete .notEvent State.reset) ∧
    exec .sealCmd State.reset = .next (complete .configError State.reset) ∧
    exec .openCmd State.reset = .next (complete .configError { State.reset with sess := .closed }) := by
  refine ⟨rfl, rfl, rfl, rfl, rfl, rfl⟩

theorem witness_CommandsCompleteWithTheirCodes :
    exec .scan State.reset = .next (complete .notOpen State.reset) ∧ (complete .notOpen State.reset).busy = false := by
  refine ⟨rfl, rfl⟩

/-- An OPEN that opens. -/
theorem witness_OnlyOpenAndResetChangeTheSession :
    let s : State := { State.reset with mode := 1#2, addr := 40#8, host := [.write 0x000#11 0x0030#16] }
    step s = .next (stepped s) ∧ (stepped s).sess ≠ s.sess := by
  refine ⟨rfl, by decide⟩

/-- A SCAN that starts: the step after which BUSY = 1. -/
theorem witness_SaveRegistersAreNotReadWhileIdle :
    let s : State := { session 1#2 0#8 [] with host := [.write 0x000#11 0x0050#16] }
    s.busy = false ∧ step s = .next (stepped s) ∧ (stepped s).busy = true := by
  refine ⟨rfl, rfl, rfl⟩

/-- The invariant holds of an open session with events decoded. -/
theorem witness_EveryStepKeepsTheInvariant :
    State.Inv { session 2#2 159#8 [] with
      evkind := .coin, evt := #v[⟨.credit, 1, 2, .na⟩, ⟨.status, 0, 0, .na⟩, ⟨.credit, 1, 2, .na⟩, ⟨.reject, 0, 2, .na⟩,
        ⟨.credit, 1, 2, .na⟩], obuf := Memory.ofBytes [1, 2], olen := 2#9 } := by
  constructor <;> simp only [modeSelected, EventRecord.decoded] <;> decide

/-- And of a SCAN under way with a device found. -/
theorem witness_EveryStepKeepsTheInvariant_sweeping :
    State.Inv { sweeping 16 [] with devn := 1#10, devtab := [{ address := 7#8, mode := .sum8, name := [65#8] }] } := by
  constructor <;> simp only [modeSelected, EventRecord.decoded] <;> decide

/-- A line with an answer longer than what is asked for, and one with none. -/
theorem witness_SerReadTakesTheNextAnswer :
    ({ answers := [[1, 2, 3], []], trace := [], draws := 0 } : SerLine).answers = [1, 2, 3] :: [[]] ∧
    (serRead 2 50#16 { answers := [[1, 2, 3], []], trace := [], draws := 0 }).bytes = [1, 2] ∧
    ({ answers := [], trace := [], draws := 0 } : SerLine).answers = [] := by decide

end Sys2Proof.Tests
end

section
/-! PROOF. No step traps, and a command's input is its buffer's bytes (00_scope.md R10, R17). -/

namespace Sys2Proof.Machine

/-- R80, R105: a Host write is accepted as a command only at CMD while BUSY = 0; there `accept_next` has every word end. -/
theorem step_write_next (s : State) (a : HostAddr) (v : Word) (rest : List HostEvent) (h : s.host = .write a v :: rest) :
    ∃ t, step s = .next t := by
  cases hb : s.busy with
  | true => exact ⟨_, step_write_busy s a v rest h hb⟩
  | false =>
    by_cases hl : locate a = .reg .cmd
    · rw [step_command s a v rest h hb hl]
      exact accept_next v _
    · exact ⟨_, step_write s a v rest h hb hl⟩

/-- Settles O7: a case per event of the outside world, none of which ends in a fault or a refusal. -/
theorem everyStepAnswersNext : Obligations.EveryStepAnswersNext := by
  intro s
  rcases h : s.host with _ | ⟨e, rest⟩
  · exact ⟨_, step_alone s (.inl h)⟩
  · cases e with
    | pause => exact ⟨_, step_alone s (.inr ⟨rest, h⟩)⟩
    | read a => exact ⟨_, step_read s a rest h⟩
    | write a v => exact step_write_next s a v rest h
    | reset => exact ⟨_, step_reset s rest h⟩
    | resetDuring w cut =>
      obtain ⟨u, -, hstep⟩ := step_resetDuring s w cut rest h
      exact ⟨_, hstep⟩

/-- Where the buffer holds a byte, no free value takes its place in an input sequence (U1). -/
theorem Memory.getElem?_bytes_of_get? (m : Memory) (d n i : Nat) (b : Byte) (hi : i < n) (hb : Memory.get? m i = some b) :
    (Memory.bytes m d n)[i]? = some b := by
  rw [Memory.getElem?_bytes m d n i hi, hb, Option.getD_some]

/-- Settles O15: both inputs are `Memory.bytes` of their buffer, at the value of its length register. -/
theorem inputsAreTheBufferBytes : Obligations.InputsAreTheBufferBytes := by
  intro s
  exact ⟨Memory.length_bytes s.ibuf s.draws s.ilen.toNat, Memory.length_bytes s.obuf s.draws s.olen.toNat,
    Memory.getElem?_bytes_of_get? s.ibuf s.draws s.ilen.toNat, Memory.getElem?_bytes_of_get? s.obuf s.draws s.olen.toNat⟩

end Sys2Proof.Machine
end

section
/-! PROOF. The invariant of CCTH holds at reset and every step keeps it (10_state.md R39 to R47). -/

namespace Sys2Proof.Machine

/-! The invariant, one lemma per shared update (R39 to R47, R191 to R195, R226) -/

/-- The invariant but for what it asks of a running SCAN: what a command, which finds BUSY = 1 at its acceptance, starts from. -/
def State.IdleInv (s : State) : Prop := State.Inv { s with busy := false }

theorem State.Inv.idle {s : State} (h : State.Inv s) : State.IdleInv s := { h with scanning := nofun }

theorem State.IdleInv.complete {s : State} (h : State.IdleInv s) (rc : ResultCode) : State.Inv (complete rc s) :=
  { h with }

theorem State.IdleInv.drawn {s : State} (h : State.IdleInv s) (n : Nat) : State.IdleInv (drawn n s) := { h with }

/-- RES and V are outside the invariant. -/
theorem State.IdleInv.verdict {s : State} (h : State.IdleInv s) (res : Word) (v : Bool) :
    State.IdleInv { s with res := res, v := v } := { h with }

/-- An output that fits leaves OBUF with a value exactly below OLEN (R44). -/
theorem State.IdleInv.putOutput {s : State} (h : State.IdleInv s) (bytes : List Byte) (hlen : bytes.length ≤ bufCap) :
    State.IdleInv (putOutput bytes s) := by
  have holen : (BitVec.ofNat 9 bytes.length).toNat = bytes.length :=
    Nat.mod_eq_of_lt (hlen.trans_lt (by decide))
  exact { h with
    obuf_keys := (Memory.keys_ofBytes bytes).trans (congrArg List.range holen.symm)
    olen_le := holen.le.trans hlen }

/-- Closing the session asks for nothing. -/
theorem State.IdleInv.close {s : State} (h : State.IdleInv s) : State.IdleInv { s with sess := .closed } :=
  { h with session := nofun, scanning := nofun }

theorem modeSelected_code (m : IntegrityMode) : modeSelected m.code := by cases m <;> simp [modeSelected, IntegrityMode.code]

/-- OPEN loads a session whose mode and address are valid (R161). -/
theorem State.IdleInv.openSession {s : State} (h : State.IdleInv s) (a : Byte) (m : BitVec 2) (t : Word)
    (hm : modeSelected m) (ha : a ≠ 0#8) :
    State.IdleInv { s with saddr := a, smode := m, stmo := t, sess := .idle } :=
  { h with session := fun _ => ⟨hm, ha⟩, scanning := nofun }

/-- XCHG keeps the session and counts at most the bytes it wrote as echo (R41). -/
theorem State.IdleInv.afterExchange {s : State} (h : State.IdleInv s) (hs : s.sess = .idle)
    (hlen : s.ilen.toNat ≤ maxPayload) : State.IdleInv (afterExchange s) := by
  have hecho : (xchgExchange s).echo ≤ bufCap := by
    have := exchange_echo_le s.saddr (sessionMode s) s.stmo s.hdr (ibufInput s) s.ser
    rw [ibufInput, Memory.length_bytes] at this
    exact this.trans (Nat.add_le_add_right hlen 5)
  exact { h with
    session := fun _ => h.session hs
    scanning := nofun
    ecnt_le := (Nat.mod_le _ _).trans hecho }

theorem State.IdleInv.noResponse {s : State} (h : State.IdleInv s) : State.Inv (recordNoResponse s) :=
  { h.putOutput [] (Nat.zero_le _) with }

theorem State.IdleInv.response {s : State} (h : State.IdleInv s) (r : Response) (hr : r.payload.length ≤ maxPayload) :
    State.Inv (recordResponse r s) :=
  { h.putOutput r.payload (hr.trans (by decide)) with }

/-! The Event Decoders -/

/-- What the five records of a batch have in common, each record has. -/
theorem eventBatch_forall (classify : Byte → Byte → Category × Route) (q : List Byte) (P : EventRecord → Prop)
    (h : ∀ k, P (eventRecord classify q k)) : ∀ k : Fin 5, P (eventBatch classify q)[k] := by
  intro k
  fin_cases k
  · exact h 1
  · exact h 2
  · exact h 3
  · exact h 4
  · exact h 5

theorem codeCategory_ne_none (c : CodeCategory) : codeCategory c ≠ .none := by cases c <;> decide

theorem classifyBill_decoded (a b : Byte) :
    (classifyBill a b).1 ≠ .none ∧ ((classifyBill a b).1 ≠ .credit → (classifyBill a b).2 = .na) := by
  by_cases ha : a = 0#8
  · simp [classifyBill, ha, codeCategory_ne_none]
  · simp [classifyBill, ha]

/-- R195: a coin is never routed. -/
theorem classifyCoin_route (a b : Byte) : (classifyCoin a b).2 = .na := by
  unfold classifyCoin
  split <;> rfl

theorem classifyCoin_ne_none (a b : Byte) : (classifyCoin a b).1 ≠ .none := by
  by_cases ha : a = 0#8
  · simp [classifyCoin, ha, codeCategory_ne_none]
  · simp [classifyCoin, ha]

/-- A decoder's records are those its classification allows (R191, R192, R195). -/
theorem State.IdleInv.events {s : State} (h : State.IdleInv s) (kind : EventKind) (c : Byte)
    (classify : Byte → Byte → Category × Route) (q : List Byte) (hk : kind ≠ .none)
    (hd : ∀ a b, (classify a b).1 ≠ .none ∧ ((classify a b).1 ≠ .credit → (classify a b).2 = .na))
    (hcoin : kind = .coin → ∀ a b, (classify a b).2 = .na) :
    State.IdleInv { s with evcnt := c, evkind := kind, evt := eventBatch classify q } :=
  { h with
    scanning := nofun
    events_none := fun hn => absurd hn hk
    events_some := fun _ => eventBatch_forall classify q _ fun _ => hd _ _
    events_coin := fun hc => eventBatch_forall classify q (·.route = .na) fun _ => hcoin hc _ _ }

theorem decodeEvents_inv {s : State} (h : State.IdleInv s) (kind : EventKind)
    (classify : Byte → Byte → Category × Route) (src : Source) (hk : kind ≠ .none)
    (hd : ∀ a b, (classify a b).1 ≠ .none ∧ ((classify a b).1 ≠ .credit → (classify a b).2 = .na))
    (hcoin : kind = .coin → ∀ a b, (classify a b).2 = .na) : State.Inv (decodeEvents kind classify src s) := by
  obtain ⟨-, -, ht⟩ | ⟨-, ht⟩ := decodeEvents_cases kind classify src s
  · rw [ht]; exact h.complete _
  · rw [ht]; exact ((h.drawn _).events kind _ classify _ hk hd hcoin).complete _

theorem decodeBill_inv {s : State} (h : State.IdleInv s) (src : Source) :
    State.Inv (decodeEvents .bill classifyBill src s) :=
  decodeEvents_inv h _ _ src nofun classifyBill_decoded nofun

theorem decodeCoin_inv {s : State} (h : State.IdleInv s) (src : Source) :
    State.Inv (decodeEvents .coin classifyCoin src s) :=
  decodeEvents_inv h _ _ src nofun (fun a b => ⟨classifyCoin_ne_none a b, fun _ => classifyCoin_route a b⟩)
    fun _ => classifyCoin_route

/-! The Scanner -/

/-- SCAN saves an open session, so a running one can restore it (R222, R223). -/
theorem State.IdleInv.scanBegin {s : State} (h : State.IdleInv s) (hs : s.sess = .idle) : State.Inv (scanBegin s) :=
  { h with
    scanning := fun _ => ⟨hs, h.session hs⟩
    devn_eq := rfl
    devn_le := Nat.zero_le _
    scanpos_le := Nat.zero_le _
    devices := nofun }

/-- The end of a SCAN restores the session it saved (R223). -/
theorem State.Inv.scanFinish {s : State} (h : State.Inv s) (hb : s.busy = true) (rc : ResultCode) :
    State.Inv (scanFinish rc s) := by
  obtain ⟨-, hsaved⟩ := h.scanning hb
  exact { h.idle.putOutput [] (Nat.zero_le _) with
    session := fun _ => hsaved
    scanning := nofun
    ecnt_le := Nat.zero_le _ }

/-- R220: address 0 is never probed. -/
theorem scanAddress_ne_zero (j : Nat) (hj : j < devCap) : scanAddress j ≠ 0#8 := by
  have hrange : 0 < scanOrder (j / 2) ∧ scanOrder (j / 2) < 256 := by
    simp only [devCap] at hj
    unfold scanOrder
    split_ifs <;> omega
  intro h
  have := congrArg BitVec.toNat h
  simp only [scanAddress, BitVec.toNat_ofNat] at this
  omega

theorem State.Inv.probeTarget {s : State} (h : State.Inv s) (hj : s.scanpos.toNat < devCap) :
    State.Inv (probeTarget s) :=
  { h with session := fun _ => ⟨modeSelected_code _, scanAddress_ne_zero _ hj⟩ }

/-- A probe's record: at most one entry, in range, and SCANPOS counts the probe (R47, R226). -/
theorem State.Inv.scanRecord {s : State} (h : State.Inv s) (hj : s.scanpos.toNat < devCap) (found : List Device)
    (line : SerLine) (hone : found.length ≤ 1)
    (hfound : ∀ d ∈ found, d.address ≠ 0#8 ∧ d.name.length ≤ maxPayload) : State.Inv (scanRecord found line s) := by
  have hle := h.devn_le
  simp only [devCap] at hj
  have hpos : (s.scanpos + 1#10).toNat = s.scanpos.toNat + 1 := by
    rw [BitVec.toNat_add, BitVec.toNat_ofNat]; omega
  have hdevn : (s.devn + BitVec.ofNat 10 found.length).toNat = s.devn.toNat + found.length := by
    rw [BitVec.toNat_add, BitVec.toNat_ofNat]; omega
  exact { h with
    devn_eq := by rw [scanRecord_devn, scanRecord_devtab, hdevn, List.length_append, h.devn_eq]
    devn_le := by rw [scanRecord_devn, scanRecord_scanpos, hdevn, hpos]; omega
    scanpos_le := by rw [scanRecord_scanpos, hpos, devCap]; omega
    devices := by
      intro d hd
      rw [scanRecord_devtab, List.mem_append] at hd
      exact hd.elim (h.devices d) (hfound d) }

theorem State.Inv.scanProbe {s : State} (h : State.Inv s) (hj : s.scanpos.toNat < devCap) : State.Inv (scanProbe s) := by
  have ht := h.probeTarget hj
  obtain ⟨-, hp⟩ | ⟨-, hname, hp⟩ := scanProbe_cases s
  · rw [hp]; exact ht.scanRecord hj [] _ (Nat.zero_le _) nofun
  · rw [hp]
    refine ht.scanRecord hj _ _ le_rfl fun d hd => ?_
    rw [List.mem_singleton.mp hd]
    exact ⟨scanAddress_ne_zero _ hj, hname⟩

theorem State.Inv.scanAdvance {s : State} (h : State.Inv s) (hb : s.busy = true) : State.Inv (scanAdvance s) := by
  obtain ⟨-, ht⟩ | ⟨-, -, ht⟩ | ⟨hj, -, ht⟩ := scanAdvance_cases s
  · rw [ht]; exact h.scanFinish hb _
  · rw [ht]; exact h.scanFinish hb _
  · rw [ht]; exact h.scanProbe hj

/-! Commands, Host accesses, and the step -/

/-- CRCGEN, CRCCHK, SUMGEN and SUMCHK are refused for their length, or write RES and at most V. -/
theorem exec_codec_cases {i : Instr} {s t : State} (hx : exec i s = .next t) (hi : i ∈ [.crcgen, .crcchk, .sumgen, .sumchk]) :
    t = complete .lengthError s ∨ ∃ rc res v, t = complete rc { drawn s.ilen.toNat s with res := res, v := v } := by
  simp only [List.mem_cons, List.not_mem_nil, or_false] at hi
  obtain rfl | rfl | rfl | rfl := hi
  · obtain ⟨-, ht⟩ | ⟨-, ht⟩ := execCrcgen_cases s <;> cases ht.symm.trans hx
    exacts [.inl rfl, .inr ⟨_, _, s.v, rfl⟩]
  · obtain ⟨-, ht⟩ | ⟨-, ht⟩ := execCrcchk_cases s <;> cases ht.symm.trans hx
    exacts [.inl rfl, .inr ⟨_, _, _, rfl⟩]
  · obtain ⟨-, ht⟩ | ⟨-, ht⟩ := execSumgen_cases s <;> cases ht.symm.trans hx
    exacts [.inl rfl, .inr ⟨_, _, s.v, rfl⟩]
  · obtain ⟨-, ht⟩ | ⟨-, ht⟩ := execSumchk_cases s <;> cases ht.symm.trans hx
    exacts [.inl rfl, .inr ⟨_, _, _, rfl⟩]

theorem exec_inv (i : Instr) {s t : State} (h : State.IdleInv s) (hx : exec i s = .next t) : State.Inv t := by
  cases i with
  | crcgen | crcchk | sumgen | sumchk =>
    obtain rfl | ⟨rc, res, v, rfl⟩ := exec_codec_cases hx (by decide)
    · exact h.complete _
    · exact ((h.drawn _).verdict _ _).complete _
  | sealCmd =>
    obtain ⟨-, ht⟩ | ⟨m, -, ⟨-, ht⟩ | ⟨hlen, ht⟩⟩ := execSeal_cases s <;> cases ht.symm.trans hx
    · exact h.complete _
    · exact h.complete _
    · refine ((h.drawn _).putOutput _ ?_).complete _
      rw [length_sealFrame, ibufInput, Memory.length_bytes]
      exact Nat.add_le_add_right hlen 5
  | unsealCmd =>
    obtain ⟨-, ht⟩ | ⟨m, -, ⟨-, ht⟩ | ⟨hlen, ht⟩⟩ := execUnseal_cases s <;> cases ht.symm.trans hx
    · exact h.complete _
    · exact h.complete _
    · refine (((h.drawn _).putOutput _ ?_).verdict _ _).complete _
      refine (length_stripped_le m _).trans ?_
      rwa [ibufInput, Memory.length_bytes]
  | openCmd =>
    obtain ⟨-, ht⟩ | ⟨⟨m, hm⟩, ha, ht⟩ := execOpen_cases s <;> cases ht.symm.trans hx
    · exact h.close.complete _
    · exact (h.openSession _ _ _ (hm ▸ modeSelected_code m) ha).complete _
  | xchg =>
    obtain ⟨-, ht⟩ | ⟨-, -, ht⟩ | ⟨hs, hlen, ⟨-, ht⟩ | ⟨r, hr, ht⟩⟩ := execXchg_cases s <;> cases ht.symm.trans hx
    · exact h.complete _
    · exact h.complete _
    · exact (h.afterExchange hs hlen).noResponse
    · exact (h.afterExchange hs hlen).response r (exchange_payload_le _ _ _ _ _ _ r hr)
  | decbill src => cases hx; exact decodeBill_inv h src
  | deccoin src => cases hx; exact decodeCoin_inv h src
  | decode src =>
    obtain ⟨-, ht⟩ | ⟨-, ht⟩ | ⟨-, -, ht⟩ := execDecode_cases src s <;> cases ht.symm.trans hx
    · exact decodeBill_inv h src
    · exact decodeCoin_inv h src
    · exact h.complete _
  | scan =>
    obtain ⟨-, ht⟩ | ⟨hs, -, ht⟩ | ⟨hs, -, ht⟩ := execScan_cases s <;> cases ht.symm.trans hx
    · exact h.complete _
    · exact (h.scanBegin hs).scanFinish rfl _
    · exact h.scanBegin hs

theorem accept_inv (w : Word) {s t : State} (h : State.Inv s) (hx : accept w s = .next t) : State.Inv t := by
  have hidle : State.IdleInv { s with busy := true } := h.idle
  obtain ⟨i, -, ht⟩ | ⟨e, -, ht⟩ := accept_cases w s
  · exact exec_inv i hidle (ht.symm.trans hx)
  · cases ht.symm.trans hx
    exact hidle.complete _

/-- Of what a Host write stores only IBUF is in the invariant, and the address map keeps the index inside it (R43, R71). -/
theorem State.Inv.writeLocation {s : State} (h : State.Inv s) (v : Word) (a : HostAddr) :
    State.Inv (writeLocation v s (locate a)) := by
  obtain ht | ⟨i, hl, ht⟩ | ⟨-, ht⟩ | ⟨-, ht⟩ | ⟨-, ht⟩ | ⟨-, ht⟩ | ⟨-, ht⟩ | ⟨-, ht⟩ | ⟨-, ht⟩ | ⟨-, ht⟩ | ⟨-, ht⟩ :=
    writeLocation_cases v s (locate a) <;> rw [ht]
  case inr.inl => exact { h with ibuf_wf := Memory.wf_set _ _ _ (locate_ibuf a i hl).1 h.ibuf_wf }
  all_goals exact { h with }

/-- Settles O58: buffers and device table are empty, and no session is open. -/
theorem invariantHoldsAtReset : Obligations.InvariantHoldsAtReset where
  ibuf_wf := rfl
  obuf_keys := rfl
  olen_le := by decide
  ecnt_le := by decide
  session := nofun
  scanning := nofun
  devn_eq := rfl
  devn_le := le_rfl
  scanpos_le := by decide
  devices := nofun
  events_none := fun _ => by decide
  events_some := fun h => absurd rfl h
  events_coin := nofun

/-- A reset keeps only what is outside the invariant. -/
theorem resetBlock_inv (s : State) : State.Inv (resetBlock s) :=
  have h : State.Inv State.reset := invariantHoldsAtReset
  { h with }

/-- Settles O59: the cases of a step, each by the lemma about its update. -/
theorem everyStepKeepsTheInvariant : Obligations.EveryStepKeepsTheInvariant := by
  intro s t hs hstep
  have h : State.Inv (afterEvent s) := { hs with }
  obtain ⟨-, rfl⟩ | ⟨hb, -, rfl⟩ | ⟨a, rest, -, rfl⟩ | ⟨-, ⟨c, rfl⟩ | rfl, -⟩ | ⟨-, a, v, rest, -, -, hx⟩ |
      ⟨-, a, v, rest, -, -, rfl⟩ | ⟨rest, -, rfl⟩ | ⟨w, cut, rest, u, -, -, rfl⟩ := step_cases s t hstep
  · exact h
  · exact h.scanAdvance hb
  · exact { h with }
  · exact { h with }
  · exact h
  · exact accept_inv v h hx
  · exact h.writeLocation v a
  · exact resetBlock_inv _
  · exact resetBlock_inv _

end Sys2Proof.Machine
end

section
/-! PROOF. What a Host access of the REG window and of IBUF reads and writes, and the reset state (10_state.md R21 to R50). -/

namespace Sys2Proof.Machine

theorem afterEvent_eq (s : State) (e : HostEvent) (rest : List HostEvent) (h : s.host = e :: rest) :
    afterEvent s = { s with host := rest } := by rw [afterEvent, h, List.tail_cons]

/-! Writes -/

/-- A Host write to a register other than CMD while BUSY = 0. -/
theorem step_write_reg (s : State) (a : HostAddr) (v : Word) (rest : List HostEvent) (hb : s.busy = false)
    (h : s.host = .write a v :: rest) (r : Reg) (hl : locate a = .reg r) (hr : r ≠ .cmd) :
    step s = .next (writeReg v { s with host := rest } r) := by
  have hcmd : locate a ≠ .reg .cmd := by simpa [hl] using hr
  rw [step_write s a v rest h hb hcmd, afterEvent_eq s _ rest h, hl, writeLocation]

/-- Settles O10: each address is that of its register in the address map. -/
theorem registerWritesTruncate : Obligations.RegisterWritesTruncate := by
  intro s a v rest hb h
  have write := step_write_reg s a v rest hb h
  refine ⟨?_, ?_, ?_, ?_, ?_, ?_, ?_, ?_, ?_⟩ <;> rintro rfl
  · exact write .ctrl rfl nofun
  · exact write .addr rfl nofun
  · exact write .mode rfl nofun
  · exact write .tmo rfl nofun
  · exact write .scantmo rfl nofun
  · exact write .hdr rfl nofun
  · exact write .ilen rfl nofun
  · exact write .arg rfl nofun
  · exact write .devsel rfl nofun

/-- R71: the IBUF window. -/
theorem locate_ibufAddr (i : Nat) (hi : i < bufCap) : locate (BitVec.ofNat 11 (0x100 + i)) = .ibuf i := by
  simp only [bufCap] at hi
  have ha : (BitVec.ofNat 11 (0x100 + i)).toNat = 0x100 + i := Nat.mod_eq_of_lt (by omega)
  have hreg : ¬ 0x100 + i ≤ 0x019 := by omega
  have hbuf : 0x100 ≤ 0x100 + i ∧ 0x100 + i ≤ 0x203 := by omega
  simp only [locate, ha, if_neg hreg, if_pos hbuf, Nat.add_sub_cancel_left]

/-- Settles O11: the buffer after the write is `Memory.set`. -/
theorem bufferWriteStoresOneByte : Obligations.BufferWriteStoresOneByte := by
  intro s i v rest hb hi h
  have hl := locate_ibufAddr i hi
  refine ⟨Memory.set s.ibuf i (v.setWidth 8), ?_, Memory.get?_set_same _ _ _,
    fun j hj => Memory.get?_set_other _ _ _ _ hj, Memory.wf_set _ _ _ hi⟩
  rw [step_write s _ v rest h hb (by rw [hl]; nofun), afterEvent_eq s _ rest h, hl, writeLocation]

/-! Reads -/

/-- A Host read of a register while BUSY = 0. -/
theorem rdata_of_read_reg {s t : State} {a : HostAddr} {rest : List HostEvent} (hb : s.busy = false)
    (h : s.host = .read a :: rest) (hstep : step s = .next t) (r : Reg) (hl : locate a = .reg r) :
    t.rdata = readReg (Config.freeWord s.draws) s r := by
  rw [step_read s a rest h] at hstep
  cases hstep
  have hidle : (afterEvent s).busy = false := hb
  simp only [hostRead, readValue, hidle, hl, readLocation]
  cases r <;> rfl

/-- The device DEVSEL selects, where it is below DEVN (R47). -/
theorem selectedDevice_eq (s : State) (d : Device) (hsel : s.devsel.toNat < s.devn.toNat)
    (hd : s.devtab[s.devsel.toNat]? = some d) : selectedDevice s = some d := by
  rw [selectedDevice, if_pos hsel, hd]

theorem code_setWidth (m : IntegrityMode) : m.code.setWidth 16 = if m = .crc16 then 1#16 else 2#16 := by
  cases m <;> decide

/-- A number that fits in a byte is not cut by it. -/
theorem ofNat_setWidth_word (n : Nat) (hn : n ≤ 255) : (BitVec.ofNat 8 n).setWidth 16 = BitVec.ofNat 16 n := by
  rw [BitVec.setWidth_ofNat_of_le_of_lt (by decide) (by omega)]

/-- Settles O12: each address is that of its register; the DEVTAB window reads the selected entry. -/
theorem registerReadsZeroExtend : Obligations.RegisterReadsZeroExtend := by
  intro s t a rest hb h hstep
  have read := rdata_of_read_reg hb h hstep
  refine ⟨?_, ?_, ?_, ?_, ?_, ?_, ?_, ?_, ?_, ?_, ?_, ?_, ?_, ?_, ?_, ?_, ?_, ?_, ?_, ?_, ?_, ?_, ?_, ?_⟩
  case refine_23 =>
    intro d hsel hd
    have hdev := selectedDevice_eq s d hsel hd
    refine ⟨?_, ?_, fun ha hlen => ?_⟩
    · rintro rfl
      rw [read .devaddr rfl, readReg, hdev]; rfl
    · rintro rfl
      rw [read .devmode rfl, readReg, hdev, Option.map_some, Option.getD_some, code_setWidth]
    · subst ha
      rw [read .devnlen rfl, readReg, hdev, Option.map_some, Option.getD_some, ofNat_setWidth_word _ hlen]
  all_goals rintro rfl
  · exact read .cmd rfl
  · exact read .status rfl
  · rw [read .ctrl rfl, readReg]; cases s.cancel <;> rfl
  · exact read .addr rfl
  · exact read .mode rfl
  · exact read .tmo rfl
  · exact read .scantmo rfl
  · exact read .hdr rfl
  · exact read .ilen rfl
  · exact read .arg rfl
  · exact read .res rfl
  · exact read .olen rfl
  · exact read .rhdr rfl
  · exact read .raddr rfl
  · exact read .ecnt rfl
  · exact read .evcnt rfl
  · exact read .saddr rfl
  · exact read .smode rfl
  · exact read .stmo rfl
  · exact read .devn rfl
  · exact read .devsel rfl
  · exact read .scanpos rfl
  · rw [read .evkind rfl, readReg]; cases s.evkind <;> rfl

/-! STATUS -/

/-- STATUS as its flags shifted in, each below the one before (R23). -/
theorem statusWord_eq_concat (s : State) :
    statusWord s = ((((0#8 ++ s.rc.code).concat s.w).concat s.v).concat (opened s)).concat s.busy := rfl

theorem extractLsb'_concat_succ {n : Nat} (x : BitVec n) (b : Bool) (i len : Nat) :
    (x.concat b).extractLsb' (i + 1) len = x.extractLsb' i len := by
  ext j
  simp [Nat.add_right_comm i 1 j, BitVec.getLsbD_concat_succ]

/-- Above its four flags STATUS is RC below eight zero bits. -/
theorem statusWord_extract (s : State) (i len : Nat) :
    (statusWord s).extractLsb' (i + 4) len = (0#8 ++ s.rc.code).extractLsb' i len := by
  rw [statusWord_eq_concat]
  simp only [extractLsb'_concat_succ]

theorem statusWord_flags (s : State) :
    (statusWord s).getLsbD 0 = s.busy ∧ (statusWord s).getLsbD 1 = opened s ∧
    (statusWord s).getLsbD 2 = s.v ∧ (statusWord s).getLsbD 3 = s.w := by
  rw [statusWord_eq_concat]
  simp only [BitVec.getLsbD_concat_zero, BitVec.getLsbD_concat_succ, and_self]

theorem statusWord_rc (s : State) : (statusWord s).extractLsb' 4 4 = s.rc.code := by
  rw [statusWord_extract s 0 4]
  cases s.rc <;> rfl

theorem statusWord_high (s : State) : (statusWord s).extractLsb' 8 8 = 0#8 := by
  rw [statusWord_extract s 4 8]
  cases s.rc <;> rfl

/-- STATUS is no place a Host write stores to, whether or not a SCAN runs (R72, R80). -/
theorem step_write_status (s : State) (v : Word) (rest : List HostEvent) (h : s.host = .write 0x001#11 v :: rest) :
    step s = .next { s with host := rest } := by
  cases hb : s.busy with
  | true => rw [step_write_busy s _ v rest h hb, if_neg (by decide), afterEvent_eq s _ rest h, hb]
  | false => exact (step_write_reg s _ v rest hb h .status rfl nofun).trans (by rw [hb]; rfl)

/-- Settles O14: the fields by the word's composition, the ignored write by the address map. -/
theorem statusWordHasItsFields : Obligations.StatusWordHasItsFields := by
  refine ⟨fun s => ?_, rfl, rfl, step_write_status⟩
  obtain ⟨hbusy, hopened, hv, hw⟩ := statusWord_flags s
  exact ⟨hbusy, by rw [hopened, opened_eq_true], hv, hw, statusWord_rc s, statusWord_high s⟩

/-- Settles O16: R50's values are those of `State.reset`, whose MODE 0 OPEN refuses. -/
theorem resetStateIsAsStated : Obligations.ResetStateIsAsStated := by
  refine ⟨rfl, rfl, rfl, rfl, rfl, rfl, rfl, rfl, rfl, rfl, rfl, rfl, rfl, rfl, rfl, rfl, rfl, rfl, rfl, rfl, rfl, rfl, rfl,
    rfl, rfl, rfl, rfl, rfl, ?_, fun i => ⟨rfl, rfl⟩, rfl, _, rfl, rfl⟩
  decide

end Sys2Proof.Machine
end

section
/-! PROOF. What a command leaves unchanged, and that only OPEN and reset change the session (10_state.md R21, R43, R48). -/

namespace Sys2Proof.Machine

/-! Frames -/

/-- Every part of the state outside `fs` is the same in `s` and `t`. -/
def WritesOnly (fs : List Field) (s t : State) : Prop := ∀ f, f ∉ fs → sameField s t f

theorem sameField_trans {s t u : State} {f : Field} (h1 : sameField s t f) (h2 : sameField t u f) : sameField s u f := by
  cases f
  case ibuf => exact fun i => (h1 i).trans (h2 i)
  case obuf => exact fun i => (h1 i).trans (h2 i)
  case evt => exact fun k => (h1 k).trans (h2 k)
  all_goals exact Eq.trans h1 h2

theorem WritesOnly.trans {fs gs : List Field} {s t u : State} (h1 : WritesOnly fs s t) (h2 : WritesOnly gs t u) :
    WritesOnly (fs ++ gs) s u := fun f hf =>
  sameField_trans (h1 f fun h => hf (List.mem_append_left gs h)) (h2 f fun h => hf (List.mem_append_right fs h))

theorem WritesOnly.mono {fs gs : List Field} {s t : State} (h : WritesOnly fs s t) (hsub : fs ⊆ gs) : WritesOnly gs s t :=
  fun f hf => h f fun hm => hf (hsub hm)

theorem complete_writesOnly (rc : ResultCode) (s : State) : WritesOnly [.busy, .rc] s (complete rc s) := by
  intro f hf
  cases f <;> simp_all [sameField]

theorem drawn_writesOnly (n : Nat) (s : State) : WritesOnly [.draws] s (drawn n s) := by
  intro f hf
  cases f <;> simp_all [sameField]

theorem putOutput_writesOnly (b : List Byte) (s : State) : WritesOnly [.obuf, .olen] s (putOutput b s) := by
  intro f hf
  cases f <;> simp_all [sameField]

/-- The updates of CRCGEN and SUMGEN (R123, R126). -/
theorem computed_writesOnly (rc : ResultCode) (n : Nat) (x : Word) (s : State) :
    WritesOnly [.busy, .rc, .draws, .res] s (complete rc { drawn n s with res := x }) := by
  intro f hf
  cases f <;> simp_all [sameField]

/-- The updates of CRCCHK and SUMCHK (R124, R127). -/
theorem checked_writesOnly (rc : ResultCode) (n : Nat) (x : Word) (v : Bool) (s : State) :
    WritesOnly [.busy, .rc, .draws, .res, .v] s (complete rc { drawn n s with res := x, v := v }) := by
  intro f hf
  cases f <;> simp_all [sameField]

theorem v_writesOnly (b : Bool) (s : State) : WritesOnly [.v] s { s with v := b } := by
  intro f hf
  cases f <;> simp_all [sameField]

theorem sess_writesOnly (x : Sess) (s : State) : WritesOnly [.sess] s { s with sess := x } := by
  intro f hf
  cases f <;> simp_all [sameField]

theorem openSession_writesOnly (a : Byte) (m : BitVec 2) (t : Word) (x : Sess) (s : State) :
    WritesOnly [.saddr, .smode, .stmo, .sess] s { s with saddr := a, smode := m, stmo := t, sess := x } := by
  intro f hf
  cases f <;> simp_all [sameField]

theorem events_writesOnly (c : Byte) (kind : EventKind) (ev : Vector EventRecord 5) (s : State) :
    WritesOnly [.evcnt, .evkind, .evt] s { s with evcnt := c, evkind := kind, evt := ev } := by
  intro f hf
  cases f <;> simp_all [sameField]

/-- An exchange is made with the session open, and leaves it so. -/
theorem afterExchange_writesOnly (s : State) (hs : s.sess = .idle) :
    WritesOnly [.draws, .ser, .ecnt, .w] s (afterExchange s) := by
  intro f hf
  cases f <;> simp_all [sameField, afterExchange]

theorem recordNoResponse_writesOnly (s : State) :
    WritesOnly [.busy, .rc, .obuf, .olen, .raddr, .rhdr, .v] s (recordNoResponse s) := by
  intro f hf
  cases f <;> simp_all [sameField]

theorem recordResponse_writesOnly (r : Response) (s : State) :
    WritesOnly [.busy, .rc, .obuf, .olen, .raddr, .rhdr, .v] s (recordResponse r s) := by
  intro f hf
  cases f <;> simp_all [sameField]

theorem scanBegin_writesOnly (s : State) : WritesOnly scanWrites s (scanBegin s) := by
  intro f hf
  cases f <;> simp_all [sameField, scanWrites]

theorem scanFinish_writesOnly (rc : ResultCode) (s : State) : WritesOnly scanWrites s (scanFinish rc s) := by
  intro f hf
  cases f <;> simp_all [sameField, scanWrites]

theorem scanRecord_writesOnly (found : List Device) (line : SerLine) (s : State) :
    WritesOnly scanWrites s (scanRecord found line s) := by
  intro f hf
  cases f <;> simp_all [sameField, scanWrites]

theorem decodeEvents_writesOnly (kind : EventKind) (classify : Byte → Byte → Category × Route) (src : Source) (s : State) :
    WritesOnly [.busy, .rc, .draws, .evt, .evcnt, .evkind] s (decodeEvents kind classify src s) := by
  obtain ⟨-, -, ht⟩ | ⟨-, ht⟩ := decodeEvents_cases kind classify src s <;> rw [ht]
  · exact (complete_writesOnly _ s).mono (by decide)
  · exact (((drawn_writesOnly _ s).trans (events_writesOnly _ _ _ _)).trans (complete_writesOnly _ _)).mono (by decide)

/-- Settles O52: each outcome of a command is a chain of shared updates, each with its own frame. -/
theorem commandsWriteOnlyTheirOutputs : Obligations.CommandsWriteOnlyTheirOutputs := by
  intro i s t f hx
  revert f
  change WritesOnly (commandWrites i) s t
  have refused (rc : ResultCode) : WritesOnly (commandWrites i) s (complete rc s) :=
    (complete_writesOnly rc s).mono (by cases i <;> simp [commandWrites, scanWrites])
  cases i with
  | crcgen =>
    obtain ⟨-, ht⟩ | ⟨-, ht⟩ := execCrcgen_cases s <;> cases ht.symm.trans hx
    · exact refused _
    · exact computed_writesOnly _ _ _ s
  | crcchk =>
    obtain ⟨-, ht⟩ | ⟨-, ht⟩ := execCrcchk_cases s <;> cases ht.symm.trans hx
    · exact refused _
    · exact checked_writesOnly _ _ _ _ s
  | sumgen =>
    obtain ⟨-, ht⟩ | ⟨-, ht⟩ := execSumgen_cases s <;> cases ht.symm.trans hx
    · exact refused _
    · exact computed_writesOnly _ _ _ s
  | sumchk =>
    obtain ⟨-, ht⟩ | ⟨-, ht⟩ := execSumchk_cases s <;> cases ht.symm.trans hx
    · exact refused _
    · exact checked_writesOnly _ _ _ _ s
  | sealCmd =>
    obtain ⟨-, ht⟩ | ⟨m, -, ⟨-, ht⟩ | ⟨-, ht⟩⟩ := execSeal_cases s <;> cases ht.symm.trans hx
    · exact refused _
    · exact refused _
    · exact (((drawn_writesOnly _ s).trans (putOutput_writesOnly _ _)).trans (complete_writesOnly _ _)).mono (by decide)
  | unsealCmd =>
    obtain ⟨-, ht⟩ | ⟨m, -, ⟨-, ht⟩ | ⟨-, ht⟩⟩ := execUnseal_cases s <;> cases ht.symm.trans hx
    · exact refused _
    · exact refused _
    · exact ((((drawn_writesOnly _ s).trans (putOutput_writesOnly _ _)).trans (v_writesOnly _ _)).trans
        (complete_writesOnly _ _)).mono (by decide)
  | openCmd =>
    obtain ⟨-, ht⟩ | ⟨-, -, ht⟩ := execOpen_cases s <;> cases ht.symm.trans hx
    · exact ((sess_writesOnly _ s).trans (complete_writesOnly _ _)).mono (by decide)
    · exact ((openSession_writesOnly _ _ _ _ s).trans (complete_writesOnly _ _)).mono (by decide)
  | xchg =>
    obtain ⟨-, ht⟩ | ⟨-, -, ht⟩ | ⟨hs, -, ⟨-, ht⟩ | ⟨r, -, ht⟩⟩ := execXchg_cases s <;> cases ht.symm.trans hx
    · exact refused _
    · exact refused _
    · exact ((afterExchange_writesOnly s hs).trans (recordNoResponse_writesOnly _)).mono (by decide)
    · exact ((afterExchange_writesOnly s hs).trans (recordResponse_writesOnly r _)).mono (by decide)
  | decbill src => cases hx; exact decodeEvents_writesOnly _ _ src s
  | deccoin src => cases hx; exact decodeEvents_writesOnly _ _ src s
  | decode src =>
    obtain ⟨-, ht⟩ | ⟨-, ht⟩ | ⟨-, -, ht⟩ := execDecode_cases src s <;> cases ht.symm.trans hx
    · exact decodeEvents_writesOnly _ _ src s
    · exact decodeEvents_writesOnly _ _ src s
    · exact refused _
  | scan =>
    obtain ⟨-, ht⟩ | ⟨-, -, ht⟩ | ⟨-, -, ht⟩ := execScan_cases s <;> cases ht.symm.trans hx
    · exact refused _
    · exact ((scanBegin_writesOnly s).trans (scanFinish_writesOnly _ _)).mono (by decide)
    · exact scanBegin_writesOnly s

theorem probeTarget_writesOnly (s : State) : WritesOnly [.saddr, .smode] s (probeTarget s) := by
  intro f hf
  cases f <;> simp_all [sameField, probeTarget]

theorem scanProbe_writesOnly (s : State) : WritesOnly scanWrites s (scanProbe s) := by
  obtain ⟨-, ht⟩ | ⟨-, -, ht⟩ := scanProbe_cases s <;> rw [ht]
  · exact ((probeTarget_writesOnly s).trans (scanRecord_writesOnly _ _ _)).mono (by decide)
  · exact ((probeTarget_writesOnly s).trans (scanRecord_writesOnly _ _ _)).mono (by decide)

theorem scanAdvance_writesOnly (s : State) : WritesOnly scanWrites s (scanAdvance s) := by
  obtain ⟨-, ht⟩ | ⟨-, -, ht⟩ | ⟨-, -, ht⟩ := scanAdvance_cases s <;> rw [ht]
  · exact scanFinish_writesOnly _ s
  · exact scanFinish_writesOnly _ s
  · exact scanProbe_writesOnly s

/-! The word and the address of OPEN -/

theorem withoutSource_eq_ok {s : Bool} {i j : Instr} (h : withoutSource s i = .ok j) : s = false ∧ i = j := by
  cases s
  · exact ⟨rfl, Except.ok.inj h⟩
  · cases h

theorem sourceOf_bit (s : Bool) : (sourceOf s).bit = s := by cases s <;> rfl

/-- The opcode table gives each command under its own opcode and S (R102). -/
theorem decodeOpcode_eq_ok {opc : Nat} {s : Bool} {i : Instr} (h : decodeOpcode opc s = .ok i) :
    i.opc.toNat = opc ∧ i.sBit = s := by
  unfold decodeOpcode at h
  split at h
  case h_9 | h_10 | h_11 => cases h; exact ⟨rfl, sourceOf_bit s⟩
  case h_13 => cases h
  all_goals
    obtain ⟨rfl, rfl⟩ := withoutSource_eq_ok h
    exact ⟨rfl, rfl⟩

/-- A word is made of its three fields (R100). -/
theorem append_fieldsOf (w : Word) : (fieldsOf w).rsv ++ BitVec.ofBool (fieldsOf w).s ++ (fieldsOf w).opc = w := by
  have hs : BitVec.ofBool (w.getLsbD 8) = w.extractLsb' 8 1 := by
    ext i hi
    simp [show i = 0 by omega]
  have hhigh : w.extractLsb' 9 7 ++ w.extractLsb' 8 1 = w.extractLsb' 8 8 :=
    BitVec.extractLsb'_append_extractLsb'_eq_extractLsb' rfl
  have hall : w.extractLsb' 8 8 ++ w.extractLsb' 0 8 = w := BitVec.extractLsb'_append_extractLsb'
  rw [fieldsOf, hs, hhigh, hall]

/-- No legal word has a second spelling. -/
theorem encode_of_decode {w : Word} {i : Instr} (h : decode w = .ok i) : encode i = w := by
  unfold decode at h
  simp only at h
  split at h
  · next hrsv =>
    obtain ⟨hopc, hs⟩ := decodeOpcode_eq_ok h
    rw [← append_fieldsOf w, hrsv, ← hs, ← BitVec.eq_of_toNat_eq hopc]
    rfl
  · cases h

/-- The registers are found in the REG window alone (R71). -/
theorem regAt_of_locate {a : HostAddr} {r : Reg} (h : locate a = .reg r) : a.toNat ≤ 0x019 ∧ regAt a.toNat = some r := by
  unfold locate at h
  simp only [evtLocation] at h
  split at h
  · next hle =>
    refine ⟨hle, ?_⟩
    split at h
    · next hr => rw [hr, Location.reg.inj h]
    · cases h
  · repeat' split at h
    all_goals cases h

theorem eq_cmdAddr_of_locate {a : HostAddr} (h : locate a = .reg .cmd) : a = 0x000#11 := by
  have hfirst : ∀ n ≤ 0x019, regAt n = some .cmd → n = 0 := by decide
  obtain ⟨hle, hr⟩ := regAt_of_locate h
  exact BitVec.eq_of_toNat_eq (hfirst _ hle hr)

/-! Only OPEN and reset change SESS -/

theorem writeLocation_sess (v : Word) (s : State) (l : Location) : (writeLocation v s l).sess = s.sess := by
  cases l
  case reg r => cases r <;> rfl
  all_goals rfl

theorem scanAdvance_sess (s : State) : (scanAdvance s).sess = s.sess := (scanAdvance_writesOnly s .sess (by decide)).symm

/-- A word that changes SESS is OPEN's. -/
theorem accept_sess {w : Word} {s t : State} (h : accept w s = .next t) (hne : t.sess ≠ s.sess) : w = 0x0030#16 := by
  obtain ⟨i, hi, hx⟩ | ⟨e, -, hx⟩ := accept_cases w s
  · by_cases hopen : i = .openCmd
    · subst hopen
      exact (encode_of_decode hi).symm
    · have hframe : Field.sess ∉ commandWrites i := by
        cases i <;> simp_all [commandWrites, scanWrites]
      exact absurd (commandsWriteOnlyTheirOutputs i _ t .sess (hx.symm.trans h) hframe).symm hne
  · cases hx.symm.trans h
    exact absurd rfl hne

/-- Settles O56: of all a step can do, only an accepted word and the two resets reach SESS. -/
theorem onlyOpenAndResetChangeTheSession : Obligations.OnlyOpenAndResetChangeTheSession := by
  intro s t hstep hne
  obtain ⟨-, rfl⟩ | ⟨-, -, rfl⟩ | ⟨a, rest, -, rfl⟩ | ⟨-, ⟨c, rfl⟩ | rfl, -⟩ | ⟨hb, a, v, rest, hh, hl, hx⟩ |
      ⟨-, a, v, rest, -, -, rfl⟩ | ⟨rest, hh, -⟩ | ⟨w, cut, rest, u, hh, -, -⟩ := step_cases s t hstep
  · exact absurd rfl hne
  · exact absurd (scanAdvance_sess _) hne
  · exact absurd rfl hne
  · exact absurd rfl hne
  · exact absurd rfl hne
  · have hw := accept_sess hx hne
    have ha := eq_cmdAddr_of_locate hl
    subst ha hw
    exact .inr (.inr ⟨hb, rest, hh⟩)
  · exact absurd (writeLocation_sess _ _ _) hne
  · exact .inl ⟨rest, hh⟩
  · exact .inr (.inl ⟨w, cut, rest, hh⟩)

end Sys2Proof.Machine
end

section
/-! PROOF. The hidden SAVE registers are seen by nothing before a SCAN writes them (10_state.md R49, 93_implementation_defined.md
U5). -/

namespace Sys2Proof.Machine

/-- The state with other values in the SAVE registers. -/
def withSave (a : Byte) (m : BitVec 2) (x : Word) (s : State) : State :=
  { s with saveAddr := a, saveMode := m, saveTmo := x }

/-- `r'` is `r` but for the SAVE registers, and for them too where a SCAN runs. -/
def SameButSave (r r' : Host.Outcome State Fault Refusal) : Prop :=
  ∀ t, r = .next t → ∃ a m x, r' = .next (withSave a m x t) ∧
    (t.busy = true → a = t.saveAddr ∧ m = t.saveMode ∧ x = t.saveTmo)

theorem sameButSave_refl (r : Host.Outcome State Fault Refusal) : SameButSave r r :=
  fun t ht => ⟨t.saveAddr, t.saveMode, t.saveTmo, ht, fun _ => ⟨rfl, rfl, rfl⟩⟩

theorem sameButSave_idle (a : Byte) (m : BitVec 2) (x : Word) (t : State) (hb : t.busy = false) :
    SameButSave (.next t) (.next (withSave a m x t)) := by
  rintro _ ⟨⟩
  exact ⟨a, m, x, rfl, fun h => by simp [hb] at h⟩

/-- A function of states applied to what an outcome answers. -/
def mapNext (f : State → State) : Host.Outcome State Fault Refusal → Host.Outcome State Fault Refusal
  | .next t => .next (f t)
  | .fault r => .fault r
  | .refused r => .refused r

/-- What XCHG records: NO_RESPONSE or the response (R171). -/
def recordExchange (r : Option Response) (s : State) : State :=
  match r with
  | none => recordNoResponse s
  | some r => recordResponse r s

theorem execXchg_eq (s : State) : execXchg s =
    if opened s = false then .next (complete .notOpen s)
    else if lengthBad maxPayload s then .next (complete .lengthError s)
    else .next (recordExchange (xchgExchange s).response (afterExchange s)) := by
  obtain ⟨hs, ht⟩ | ⟨hs, hl, ht⟩ | ⟨hs, hl, ⟨hr, ht⟩ | ⟨r, hr, ht⟩⟩ := execXchg_cases s <;> rw [ht]
  · simp [hs]
  · simp [hs, hl]
  · simp [hs, hl, hr, recordExchange]
  · simp [hs, hl, hr, recordExchange]

/-! Every command but SCAN carries the SAVE registers along -/

section
variable (a : Byte) (m : BitVec 2) (x : Word)

theorem decodeEvents_withSave (kind : EventKind) (classify : Byte → Byte → Category × Route) (src : Source) (s : State) :
    decodeEvents kind classify src (withSave a m x s) = withSave a m x (decodeEvents kind classify src s) := by
  cases src
  · rw [decodeEvents, decodeEvents, apply_ite (withSave a m x)]
    rfl
  · rfl

theorem execSeal_withSave (s : State) : execSeal (withSave a m x s) = mapNext (withSave a m x) (execSeal s) := by
  have hmode : (withSave a m x s).mode = s.mode := rfl
  unfold execSeal
  rw [hmode]
  cases modeOf s.mode
  · rfl
  · simp only
    rw [apply_ite (mapNext (withSave a m x))]
    rfl

theorem execUnseal_withSave (s : State) : execUnseal (withSave a m x s) = mapNext (withSave a m x) (execUnseal s) := by
  have hmode : (withSave a m x s).mode = s.mode := rfl
  unfold execUnseal
  rw [hmode]
  cases modeOf s.mode
  · rfl
  · simp only
    rw [apply_ite (mapNext (withSave a m x))]
    rfl

theorem recordExchange_withSave (r : Option Response) (s : State) :
    recordExchange r (withSave a m x s) = withSave a m x (recordExchange r s) := by
  cases r <;> rfl

theorem execXchg_withSave (s : State) : execXchg (withSave a m x s) = mapNext (withSave a m x) (execXchg s) := by
  rw [execXchg_eq, execXchg_eq, apply_ite (mapNext (withSave a m x)), apply_ite (mapNext (withSave a m x))]
  refine if_congr Iff.rfl rfl (if_congr Iff.rfl rfl ?_)
  exact congrArg Host.Outcome.next (recordExchange_withSave a m x (xchgExchange s).response (afterExchange s))

theorem execDecode_withSave (src : Source) (s : State) :
    execDecode src (withSave a m x s) = mapNext (withSave a m x) (execDecode src s) := by
  unfold execDecode
  rw [apply_ite (mapNext (withSave a m x)), apply_ite (mapNext (withSave a m x)), decodeEvents_withSave,
    decodeEvents_withSave]
  rfl

theorem exec_withSave (i : Instr) (hi : i ≠ .scan) (s : State) :
    exec i (withSave a m x s) = mapNext (withSave a m x) (exec i s) := by
  cases i with
  | crcgen => rw [exec, exec, execCrcgen, execCrcgen, apply_ite (mapNext (withSave a m x))]; rfl
  | crcchk => rw [exec, exec, execCrcchk, execCrcchk, apply_ite (mapNext (withSave a m x))]; rfl
  | sumgen => rw [exec, exec, execSumgen, execSumgen, apply_ite (mapNext (withSave a m x))]; rfl
  | sumchk => rw [exec, exec, execSumchk, execSumchk, apply_ite (mapNext (withSave a m x))]; rfl
  | sealCmd => exact execSeal_withSave a m x s
  | unsealCmd => exact execUnseal_withSave a m x s
  | openCmd => rw [exec, exec, execOpen, execOpen, apply_ite (mapNext (withSave a m x))]; rfl
  | xchg => exact execXchg_withSave a m x s
  | decbill src => exact congrArg Host.Outcome.next (decodeEvents_withSave a m x _ _ src s)
  | deccoin src => exact congrArg Host.Outcome.next (decodeEvents_withSave a m x _ _ src s)
  | decode src => exact execDecode_withSave a m x src s
  | scan => exact absurd rfl hi

end

/-! SCAN writes them before it reads them -/

theorem execScan_sameButSave (a : Byte) (m : BitVec 2) (x : Word) (s : State) :
    SameButSave (execScan s) (execScan (withSave a m x s)) := by
  by_cases hs : opened s = false
  · have hw : opened (withSave a m x s) = false := hs
    rw [execScan, execScan, if_pos hs, if_pos hw]
    exact sameButSave_idle a m x _ rfl
  · have hw : ¬ opened (withSave a m x s) = false := hs
    rw [execScan, execScan, if_neg hs, if_neg hw]
    exact sameButSave_refl _

/-- BUSY is 0 at the end of every command but SCAN (R247). -/
theorem exec_busy {i : Instr} (hi : i ≠ .scan) {s t : State} (hx : exec i s = .next t) : t.busy = false := by
  have hdec (kind : EventKind) (classify : Byte → Byte → Category × Route) (src : Source) :
      (decodeEvents kind classify src s).busy = false := by
    obtain ⟨-, -, ht⟩ | ⟨-, ht⟩ := decodeEvents_cases kind classify src s <;> rw [ht] <;> rfl
  cases i with
  | crcgen | crcchk | sumgen | sumchk =>
    obtain rfl | ⟨rc, res, v, rfl⟩ := exec_codec_cases hx (by decide) <;> rfl
  | sealCmd => obtain ⟨-, ht⟩ | ⟨m, -, ⟨-, ht⟩ | ⟨-, ht⟩⟩ := execSeal_cases s <;> cases ht.symm.trans hx <;> rfl
  | unsealCmd => obtain ⟨-, ht⟩ | ⟨m, -, ⟨-, ht⟩ | ⟨-, ht⟩⟩ := execUnseal_cases s <;> cases ht.symm.trans hx <;> rfl
  | openCmd => obtain ⟨-, ht⟩ | ⟨-, -, ht⟩ := execOpen_cases s <;> cases ht.symm.trans hx <;> rfl
  | xchg =>
    obtain ⟨-, ht⟩ | ⟨-, -, ht⟩ | ⟨-, -, ⟨-, ht⟩ | ⟨r, -, ht⟩⟩ := execXchg_cases s <;> cases ht.symm.trans hx <;> rfl
  | decbill src => cases hx; exact hdec _ _ src
  | deccoin src => cases hx; exact hdec _ _ src
  | decode src =>
    obtain ⟨-, ht⟩ | ⟨-, ht⟩ | ⟨-, -, ht⟩ := execDecode_cases src s <;> cases ht.symm.trans hx
    exacts [hdec _ _ src, hdec _ _ src, rfl]
  | scan => exact absurd rfl hi

theorem exec_sameButSave (a : Byte) (m : BitVec 2) (x : Word) (i : Instr) (s : State) :
    SameButSave (exec i s) (exec i (withSave a m x s)) := by
  by_cases hi : i = .scan
  · subst hi
    exact execScan_sameButSave a m x s
  · intro t ht
    have hw : exec i (withSave a m x s) = .next (withSave a m x t) := by rw [exec_withSave a m x i hi, ht, mapNext]
    exact ⟨a, m, x, hw, fun hb => by simp [exec_busy hi ht] at hb⟩

theorem accept_sameButSave (a : Byte) (m : BitVec 2) (x : Word) (w : Word) (s : State) :
    SameButSave (accept w s) (accept w (withSave a m x s)) := by
  unfold accept
  cases decode w with
  | ok i => exact exec_sameButSave a m x i { s with busy := true }
  | error e => exact sameButSave_idle a m x (illegalCommand { s with busy := true }) rfl

/-! Host accesses neither show nor reach them -/

theorem readLocation_withSave (free : Word) (a : Byte) (m : BitVec 2) (x : Word) (s : State) (l : Location) :
    readLocation free (withSave a m x s) l = readLocation free s l := by
  cases l
  case reg r => cases r <;> rfl
  case evt k f => cases f <;> rfl
  all_goals rfl

theorem hostRead_withSave (adr : HostAddr) (a : Byte) (m : BitVec 2) (x : Word) (s : State) (hb : s.busy = false) :
    hostRead adr (withSave a m x s) = withSave a m x (hostRead adr s) := by
  have hvalue : readValue (Config.freeWord s.draws) (withSave a m x s) (locate adr) =
      readValue (Config.freeWord s.draws) s (locate adr) := by
    have hbw : (withSave a m x s).busy = false := hb
    rw [readValue, readValue, hb, hbw, readLocation_withSave]
    rfl
  exact congrArg (fun r => withSave a m x { s with rdata := r, draws := s.draws + 1 }) hvalue

theorem writeLocation_withSave (v : Word) (a : Byte) (m : BitVec 2) (x : Word) (s : State) (l : Location) :
    writeLocation v (withSave a m x s) l = withSave a m x (writeLocation v s l) := by
  cases l
  case reg r => cases r <;> rfl
  all_goals rfl

theorem writeLocation_busy (v : Word) (s : State) (l : Location) : (writeLocation v s l).busy = s.busy := by
  cases l
  case reg r => cases r <;> rfl
  all_goals rfl

theorem afterEvent_withSave (a : Byte) (m : BitVec 2) (x : Word) (s : State) :
    afterEvent (withSave a m x s) = withSave a m x (afterEvent s) := rfl

/-- A step from an idle block, event by event. -/
theorem step_sameButSave (a : Byte) (m : BitVec 2) (x : Word) (s : State) (hb : s.busy = false) :
    SameButSave (step s) (step (withSave a m x s)) := by
  have hbw : (withSave a m x s).busy = false := hb
  have alone (h : s.host = [] ∨ ∃ rest, s.host = .pause :: rest) : SameButSave (step s) (step (withSave a m x s)) := by
    rw [step_alone s h, step_alone (withSave a m x s) h, hb, hbw]
    exact sameButSave_idle a m x (afterEvent s) hb
  rcases h : s.host with _ | ⟨e, rest⟩
  · exact alone (.inl h)
  · have hw : (withSave a m x s).host = e :: rest := h
    cases e with
    | pause => exact alone (.inr ⟨rest, h⟩)
    | read adr =>
      rw [step_read s adr rest h, step_read _ adr rest hw, afterEvent_withSave,
        hostRead_withSave adr a m x (afterEvent s) hb]
      exact sameButSave_idle a m x _ hb
    | write adr v =>
      by_cases hl : locate adr = .reg .cmd
      · rw [step_command s adr v rest h hb hl, step_command _ adr v rest hw hbw hl]
        exact accept_sameButSave a m x v (afterEvent s)
      · rw [step_write s adr v rest h hb hl, step_write _ adr v rest hw hbw hl]
        rw [afterEvent_withSave, writeLocation_withSave]
        exact sameButSave_idle a m x _ ((writeLocation_busy v _ _).trans hb)
    | reset =>
      rw [step_reset s rest h, step_reset _ rest hw]
      exact sameButSave_refl _
    | resetDuring w cut =>
      obtain ⟨u, ⟨hbusy, -⟩ | ⟨-, hu⟩, hs⟩ := step_resetDuring s w cut rest h
      · simp [hb] at hbusy
      obtain ⟨u', ⟨hbusy, -⟩ | ⟨-, hu'⟩, hs'⟩ := step_resetDuring _ w cut rest hw
      · simp [hbw] at hbusy
      obtain ⟨a', m', x', hsame, -⟩ := accept_sameButSave a m x w (afterEvent s) u hu
      cases hu'.symm.trans hsame
      rw [hs, hs']
      exact sameButSave_refl _

/-- Settles O57: `SameButSave` of a step, by the event it takes. -/
theorem saveRegistersAreNotReadWhileIdle : Obligations.SaveRegistersAreNotReadWhileIdle :=
  fun s t a m x hb hstep => step_sameButSave a m x s hb t hstep

end Sys2Proof.Machine
end

section
/-! PROOF. Host accesses by address, while BUSY = 0 and while BUSY = 1, and the SER transactions (20_memory.md R71 to R89). -/

namespace Sys2Proof.Machine

/-! The address map (R71) -/

/-- No register has two addresses. -/
theorem locate_reg_injective {a b : HostAddr} {r : Reg} (ha : locate a = .reg r) (hb : locate b = .reg r) : a = b := by
  obtain ⟨hle, ha⟩ := regAt_of_locate ha
  obtain ⟨-, hb⟩ := regAt_of_locate hb
  exact BitVec.eq_of_toNat_eq ((List.getElem?_inj (Nat.lt_succ_of_le hle) (by decide)).mp (ha.trans hb.symm))

theorem locate_eq_ctrl_iff (a : HostAddr) : locate a = .reg .ctrl ↔ a = 0x002#11 :=
  ⟨fun h => locate_reg_injective h rfl, fun h => h ▸ rfl⟩

theorem locate_of_ibuf {a : HostAddr} {i : Nat} (hi : i < bufCap) (h : a.toNat = 0x100 + i) : locate a = .ibuf i := by
  rw [← locate_ibufAddr i hi, ← h, BitVec.ofNat_toNat, BitVec.setWidth_eq]

theorem locate_of_obuf {a : HostAddr} {i : Nat} (hi : i < bufCap) (h : a.toNat = 0x300 + i) : locate a = .obuf i := by
  simp only [bufCap] at hi
  have hreg : ¬ 0x300 + i ≤ 0x019 := by omega
  have hibuf : ¬ (0x100 ≤ 0x300 + i ∧ 0x300 + i ≤ 0x203) := by omega
  have hobuf : 0x300 ≤ 0x300 + i ∧ 0x300 + i ≤ 0x403 := by omega
  simp only [locate, h, if_neg hreg, if_neg hibuf, if_pos hobuf, Nat.add_sub_cancel_left]

theorem locate_of_devname {a : HostAddr} {i : Nat} (hi : i < 255) (h : a.toNat = 0x600 + i) : locate a = .devname i := by
  have hreg : ¬ 0x600 + i ≤ 0x019 := by omega
  have hibuf : ¬ (0x100 ≤ 0x600 + i ∧ 0x600 + i ≤ 0x203) := by omega
  have hobuf : ¬ (0x300 ≤ 0x600 + i ∧ 0x600 + i ≤ 0x403) := by omega
  have hevt : ¬ (0x500 ≤ 0x600 + i ∧ 0x600 + i ≤ 0x527) := by omega
  have hname : 0x600 ≤ 0x600 + i ∧ 0x600 + i ≤ 0x6FE := by omega
  simp only [locate, h, if_neg hreg, if_neg hibuf, if_neg hobuf, if_neg hevt, if_pos hname, Nat.add_sub_cancel_left]

/-- Each EVT record takes eight addresses, its fields the first five of them. -/
theorem locate_of_evt {a : HostAddr} (k : Fin 5) {f : Nat} {field : EventField} (hf : eventFieldAt f = some field)
    (h : a.toNat = 0x500 + 8 * k.val + f) : locate a = .evt k field := by
  obtain ⟨hlt, -⟩ := List.getElem?_eq_some_iff.mp hf
  simp only [List.length_cons, List.length_nil] at hlt
  have hreg : ¬ a.toNat ≤ 0x019 := by omega
  have hibuf : ¬ (0x100 ≤ a.toNat ∧ a.toNat ≤ 0x203) := by omega
  have hobuf : ¬ (0x300 ≤ a.toNat ∧ a.toNat ≤ 0x403) := by omega
  have hevt : 0x500 ≤ a.toNat ∧ a.toNat ≤ 0x527 := by omega
  have hrecord : (a.toNat - 0x500) / 8 = k.val := by omega
  have hoffset : (a.toNat - 0x500) % 8 = f := by omega
  simp only [locate, if_neg hreg, if_neg hibuf, if_neg hobuf, if_pos hevt, hrecord, hoffset, evtLocation, dif_pos k.isLt, hf]

/-! Reads -/

theorem readLocation_host (free : Word) (s : State) (rest : List HostEvent) (l : Location) :
    readLocation free { s with host := rest } l = readLocation free s l := by
  cases l
  case reg r => cases r <;> rfl
  case evt k f => cases f <;> rfl
  all_goals rfl

theorem readValue_host (free : Word) (s : State) (rest : List HostEvent) (l : Location) :
    readValue free { s with host := rest } l = readValue free s l := by
  rw [readValue, readValue, readLocation_host]
  rfl

theorem readValue_idle (free : Word) (s : State) (l : Location) (hb : s.busy = false) :
    readValue free s l = readLocation free s l := by
  rw [readValue, hb, if_neg Bool.false_ne_true]

theorem readValue_busy_status (free : Word) (s : State) (hb : s.busy = true) :
    readValue free s (.reg .status) = busyStatusWord free s := by
  rw [readValue, if_pos hb, if_pos rfl]

/-- The whole state after a Host read: nothing of CCTH changes (R78). -/
theorem step_read_eq (s : State) (a : HostAddr) (rest : List HostEvent) (h : s.host = .read a :: rest) :
    step s = .next { s with
      host := rest, rdata := readValue (Config.freeWord s.draws) s (locate a), draws := s.draws + 1 } := by
  rw [step_read s a rest h, afterEvent_eq s _ rest h, hostRead, readValue_host]

/-- A Host read of any location while BUSY = 0. -/
theorem rdata_of_read {s t : State} {a : HostAddr} {rest : List HostEvent} (hb : s.busy = false)
    (h : s.host = .read a :: rest) (hstep : step s = .next t) {l : Location} (hl : locate a = l) :
    t.rdata = readLocation (Config.freeWord s.draws) s l := by
  cases (step_read_eq s a rest h).symm.trans hstep
  exact hl ▸ readValue_idle _ s _ hb

/-- STATUS while BUSY = 1 has BUSY and OPENED at its bottom and zeros in its upper byte (R23, R80). -/
theorem busyStatusWord_fields (free : Word) (s : State) :
    (busyStatusWord free s).getLsbD 0 = true ∧ (busyStatusWord free s).getLsbD 1 = opened s ∧
    (busyStatusWord free s).extractLsb' 8 8 = 0#8 := by
  have hconcat : busyStatusWord free s = ((0#8 ++ free.extractLsb' 2 6).concat (opened s)).concat true := rfl
  rw [hconcat]
  refine ⟨BitVec.getLsbD_concat_zero, ?_, ?_⟩
  · rw [BitVec.getLsbD_concat_succ, BitVec.getLsbD_concat_zero]
  · rw [extractLsb'_concat_succ, extractLsb'_concat_succ, BitVec.extractLsb'_append_eq_left]

/-- Settles O8: a step while BUSY = 1, for each of the two accesses. -/
theorem busyBlockTakesOnlyControlWrites : Obligations.BusyBlockTakesOnlyControlWrites := by
  intro s a rest hb
  refine ⟨fun v h => ?_, fun h => ⟨_, step_read_eq s a rest h, ?_⟩⟩
  · rw [step_write_busy s a v rest h hb, afterEvent_eq s _ rest h]
    exact congrArg Host.Outcome.next (if_congr (locate_eq_ctrl_iff a) rfl rfl)
  · rintro rfl
    obtain ⟨hbusy, hopened, hhigh⟩ := busyStatusWord_fields (Config.freeWord s.draws) s
    rw [show locate 0x001#11 = .reg .status from rfl, readValue_busy_status _ s hb]
    exact ⟨hbusy, by rw [hopened, opened_eq_true], hhigh⟩

/-- Settles O9: by `writeLocation_cases` a write that stores goes to a register or to IBUF, whose addresses are excluded. -/
theorem unmappedAndReadOnlyWritesChangeNothing : Obligations.UnmappedAndReadOnlyWritesChangeNothing := by
  intro s a rest hb
  refine ⟨fun v h ha hbuf => ?_, fun h => ⟨_, step_read_eq s a rest h⟩⟩
  have excluded (b : HostAddr) {r : Reg} (hr : locate b = .reg r)
      (hmem : b ∈ [0x000#11, 0x002#11, 0x003#11, 0x004#11, 0x005#11, 0x006#11, 0x007#11, 0x008#11, 0x009#11, 0x014#11]) :
      locate a ≠ .reg r := fun hl => ha (locate_reg_injective hl hr ▸ hmem)
  rw [step_write s a v rest h hb (excluded 0x000#11 rfl (by decide)), afterEvent_eq s _ rest h]
  obtain ht | ⟨i, hl, -⟩ | ⟨hl, -⟩ | ⟨hl, -⟩ | ⟨hl, -⟩ | ⟨hl, -⟩ | ⟨hl, -⟩ | ⟨hl, -⟩ | ⟨hl, -⟩ | ⟨hl, -⟩ | ⟨hl, -⟩ :=
    writeLocation_cases v { s with host := rest } (locate a)
  · rw [ht]
  · obtain ⟨hi, hat⟩ := locate_ibuf a i hl
    simp only [bufCap] at hi
    omega
  · exact absurd hl (excluded 0x002#11 rfl (by decide))
  · exact absurd hl (excluded 0x003#11 rfl (by decide))
  · exact absurd hl (excluded 0x004#11 rfl (by decide))
  · exact absurd hl (excluded 0x005#11 rfl (by decide))
  · exact absurd hl (excluded 0x006#11 rfl (by decide))
  · exact absurd hl (excluded 0x007#11 rfl (by decide))
  · exact absurd hl (excluded 0x008#11 rfl (by decide))
  · exact absurd hl (excluded 0x009#11 rfl (by decide))
  · exact absurd hl (excluded 0x014#11 rfl (by decide))

/-- Settles O13: each address is located in its window, and the location holds the byte or field. -/
theorem windowReadsShowTheBytes : Obligations.WindowReadsShowTheBytes := by
  intro s t a rest hb h hstep
  have read {l : Location} : locate a = l → t.rdata = readLocation (Config.freeWord s.draws) s l := rdata_of_read hb h hstep
  refine ⟨fun i b hi ha hget => ?_, fun i b hi ha hget => ?_, fun k => ⟨?_, ?_, ?_, ?_, ?_⟩, fun d i b hsel hd hi ha hget => ?_⟩
  · rw [read (locate_of_ibuf hi ha), readLocation, hget, Option.getD_some]
  · rw [read (locate_of_obuf hi ha), readLocation, hget, Option.getD_some]
  · exact fun ha => read (locate_of_evt k (f := 0) (field := .idx) rfl ha)
  · exact fun ha => read (locate_of_evt k (f := 1) (field := .cat) rfl ha)
  · exact fun ha => read (locate_of_evt k (f := 2) (field := .ra) rfl ha)
  · exact fun ha => read (locate_of_evt k (f := 3) (field := .rb) rfl ha)
  · exact fun ha => read (locate_of_evt k (f := 4) (field := .route) rfl ha)
  · rw [read (locate_of_devname hi ha), readLocation, selectedName, selectedDevice_eq s d hsel hd]
    simp only [hget, Option.getD_some]

/-! The SER port (R86 to R89) -/

theorem serRead_of_answers (n : Nat) (t : Word) (l : SerLine) (r : List Byte) (rest : List (List Byte))
    (h : l.answers = r :: rest) :
    serRead n t l = { bytes := r.take n, line := { l with answers := rest, trace := l.trace ++ [.read n t] } } := by
  rw [serRead, h]

theorem serRead_of_no_answers (n : Nat) (t : Word) (l : SerLine) (h : l.answers = []) :
    serRead n t l =
      { bytes := (Config.freeSerRead l.draws).take n
        line := { l with trace := l.trace ++ [.read n t], draws := l.draws + 1 } } := by
  rw [serRead, h]

/-- Settles O60: a read by whether an answer is listed. -/
theorem serReadTakesTheNextAnswer : Obligations.SerReadTakesTheNextAnswer :=
  ⟨fun _ => rfl, fun _ _ => rfl,
    fun n t l => ⟨length_serRead_le n t l, serRead_of_answers n t l, serRead_of_no_answers n t l⟩⟩

end Sys2Proof.Machine
end

section
/-! PROOF. The decoder and the encoder of command words, and what a CMD write of a legal and of an illegal word does
(30_encoding.md R100 to R105). -/

namespace Sys2Proof.Machine

/-! Decoding undoes encoding (R100 to R103) -/

/-- The fields are read back from the word made of them: `append_fieldsOf` the other way round. -/
theorem fieldsOf_append (f : CommandFields) : fieldsOf (f.rsv ++ BitVec.ofBool f.s ++ f.opc) = f := by
  have hrsv : (f.rsv ++ BitVec.ofBool f.s ++ f.opc).extractLsb' 9 7 = f.rsv :=
    (BitVec.extractLsb'_append_eq_of_le (by decide)).trans BitVec.extractLsb'_append_eq_left
  have hs : (f.rsv ++ BitVec.ofBool f.s ++ f.opc).getLsbD 8 = f.s := by
    rw [BitVec.getLsbD_append, BitVec.getLsbD_append]
    simp
  have hopc : (f.rsv ++ BitVec.ofBool f.s ++ f.opc).extractLsb' 0 8 = f.opc := BitVec.extractLsb'_append_eq_right
  rw [fieldsOf, hrsv, hs, hopc]

theorem fieldsOf_encode (i : Instr) : fieldsOf (encode i) = i.fields := fieldsOf_append i.fields

theorem sourceOf_source_bit (src : Source) : sourceOf src.bit = src := by cases src <;> rfl

theorem decodeOpcode_opc (i : Instr) : decodeOpcode i.opc.toNat i.sBit = .ok i := by
  cases i with
  | decbill src => exact congrArg (Except.ok ∘ Instr.decbill) (sourceOf_source_bit src)
  | deccoin src => exact congrArg (Except.ok ∘ Instr.deccoin) (sourceOf_source_bit src)
  | decode src => exact congrArg (Except.ok ∘ Instr.decode) (sourceOf_source_bit src)
  | crcgen | crcchk | sumgen | sumchk | sealCmd | unsealCmd | openCmd | xchg | scan => rfl

/-- Test 1 of R101 refuses the word. -/
theorem decode_of_rsv_ne_zero {w : Word} (h : w.extractLsb' 9 7 ≠ 0#7) : decode w = .error .reservedBits := if_neg h

/-- Past test 1 of R101 the opcode and S decide. -/
theorem decode_of_rsv_eq_zero {w : Word} (h : w.extractLsb' 9 7 = 0#7) :
    decode w = decodeOpcode (w.extractLsb' 0 8).toNat (w.getLsbD 8) := if_pos h

theorem decode_encode (i : Instr) : decode (encode i) = .ok i := by
  rw [decode, fieldsOf_encode]
  exact decodeOpcode_opc i

/-- Settles O2: `fieldsOf_append` and `append_fieldsOf` make words and fields the same thing, and each command stands in the
opcode table under its own opcode and S. -/
theorem decodeAndEncodeAgree : Obligations.DecodeAndEncodeAgree :=
  ⟨fun i _ => decode_encode i, fun _ _ => encode_of_decode⟩

/-! The fifteen words (R102) -/

theorem decode_eq_ok_iff {w : Word} {i : Instr} : decode w = .ok i ↔ encode i = w :=
  ⟨encode_of_decode, fun h => h ▸ decode_encode i⟩

theorem encode_mem_legalWords (i : Instr) : (encode i, i) ∈ legalWords := by
  cases i with
  | decbill src => cases src <;> decide
  | deccoin src => cases src <;> decide
  | decode src => cases src <;> decide
  | crcgen | crcchk | sumgen | sumchk | sealCmd | unsealCmd | openCmd | xchg | scan => decide

/-- R102 lists each command with the word of its opcode and S. -/
theorem mem_legalWords_iff {w : Word} {i : Instr} : (w, i) ∈ legalWords ↔ encode i = w := by
  have listed : ∀ p ∈ legalWords, encode p.2 = p.1 := by decide
  exact ⟨listed (w, i), fun h => h ▸ encode_mem_legalWords i⟩

/-- Settles O1: the word a command is decoded from is its encoding, and so is the word R102 lists with it. -/
theorem legalWordsAreTheFifteenListed : Obligations.LegalWordsAreTheFifteenListed :=
  fun _ _ => decode_eq_ok_iff.trans mem_legalWords_iff.symm

/-! The three tests (R101) -/

theorem decodeOpcode_of_unlisted {opc : Nat} (s : Bool)
    (h : opc ∉ (opcodesWithoutSource ++ opcodesWithSource).map BitVec.toNat) :
    decodeOpcode opc s = .error .unassignedOpcode := by
  unfold decodeOpcode
  split
  case h_13 => rfl
  all_goals exact absurd (by decide) h

/-- An opcode whose row says "S: no" names one command, which S = 1 refuses. -/
theorem decodeOpcode_of_withoutSource {opc : Byte} (s : Bool) (h : opc ∈ opcodesWithoutSource) :
    ∃ i : Instr, decodeOpcode opc.toNat s = withoutSource s i ∧ i.opc = opc ∧ i.sBit = false := by
  simp only [opcodesWithoutSource, List.mem_cons, List.not_mem_nil, or_false] at h
  obtain rfl | rfl | rfl | rfl | rfl | rfl | rfl | rfl | rfl := h <;> exact ⟨_, rfl, rfl, rfl⟩

/-- An opcode whose row says "S: yes" names one command for each S. -/
theorem decodeOpcode_of_withSource {opc : Byte} (s : Bool) (h : opc ∈ opcodesWithSource) :
    ∃ i : Instr, decodeOpcode opc.toNat s = .ok i ∧ i.opc = opc ∧ i.sBit = s := by
  simp only [opcodesWithSource, List.mem_cons, List.not_mem_nil, or_false] at h
  obtain rfl | rfl | rfl := h <;> exact ⟨_, rfl, rfl, sourceOf_bit s⟩

/-- Settles O4: test 1 is the decoder's own, tests 2 and 3 are the opcode table's, by the list the opcode is in. -/
theorem wordsAreTestedInOrder : Obligations.WordsAreTestedInOrder := by
  intro w rsv s opc
  refine ⟨decode_of_rsv_ne_zero, fun hrsv hopc => ?_, fun hrsv hopc hs => ?_, fun hrsv hopc => ?_⟩
  all_goals rw [decode_of_rsv_eq_zero hrsv]
  · exact decodeOpcode_of_unlisted s ((List.mem_map_of_injective BitVec.toNat_injective).not.mpr hopc)
  · obtain ⟨i, hi, -⟩ := decodeOpcode_of_withoutSource s hopc
    exact hi.trans (if_pos hs)
  · obtain ⟨hopc, hs⟩ | hopc := hopc
    · obtain ⟨i, hi, hiopc, his⟩ := decodeOpcode_of_withoutSource s hopc
      exact ⟨i, hi.trans (if_neg (Bool.eq_false_iff.mp hs)), hiopc, his.trans hs.symm⟩
    · exact decodeOpcode_of_withSource s hopc

/-- Settles O3: the legal samples are the encodings of their commands, and each illegal one fails one of the three tests. -/
theorem sampleWordsDecode : Obligations.SampleWordsDecode := by
  obtain ⟨-, -, refusesSource, -⟩ := wordsAreTestedInOrder 0x0110#16
  obtain ⟨refusesReserved, -⟩ := wordsAreTestedInOrder 0x0210#16
  obtain ⟨-, refusesOpcode, -⟩ := wordsAreTestedInOrder 0x0000#16
  exact ⟨decode_encode .crcgen, decode_encode .xchg, decode_encode (.decode .ibuf), decode_encode (.decode .obuf),
    decode_encode (.decbill .obuf), decode_encode .scan, refusesSource (by decide) (by decide) (by decide),
    refusesReserved (by decide), refusesOpcode (by decide) (by decide)⟩

/-! A CMD write while BUSY = 0 (R104, R105) -/

/-- CMD is at address 0 (R71), so a write there is accepted. -/
theorem step_write_cmd {s : State} {w : Word} {rest : List HostEvent} (h : s.host = .write 0x000#11 w :: rest)
    (hb : s.busy = false) : step s = accept w { s with host := rest } := by
  rw [step_command s 0x000#11 w rest h hb rfl, afterEvent_eq s _ rest h]

/-- Settles O6: an accepted word is executed, as the one command it decodes to. -/
theorem acceptedWordRunsItsCommand : Obligations.AcceptedWordRunsItsCommand := by
  intro s w i rest h hb hi
  rw [step_write_cmd h hb, accept, hi]

/-- Settles O5: a word the decoder accepts is in R102's list, so this one is refused, and `complete` clears the BUSY that its
acceptance set. -/
theorem illegalWordOnlySetsResultCode : Obligations.IllegalWordOnlySetsResultCode := by
  intro s w rest h hb hw
  rw [step_write_cmd h hb]
  obtain ⟨i, hi, -⟩ | ⟨e, -, hx⟩ := accept_cases w { s with host := rest }
  · have hmem : w ∈ legalWords.map Prod.fst := List.mem_map_of_mem (mem_legalWords_iff.mpr (encode_of_decode hi))
    exact absurd hmem hw
  · rw [hx, complete, ← hb]

end Sys2Proof.Machine
end

section
/-! PROOF. The Integrity Codec: the CRC and its bit-serial form, the checksum, and CRCGEN, CRCCHK, SUMGEN, SUMCHK
(41_integrity_codec.md R120 to R128). -/

namespace Sys2Proof.Machine

/-! One shift of the CRC register is linear over exclusive-or (R120) -/

theorem and_topBit_ne_zero_iff (c : Word) : c &&& 0x8000#16 ≠ 0#16 ↔ c.msb = true := by
  rw [show (0x8000#16 : Word) = BitVec.twoPow 16 15 from rfl, BitVec.and_twoPow, BitVec.msb_eq_getLsbD_last]
  cases c.getLsbD (16 - 1) <;> decide

/-- The polynomial is added exactly where a 1 is shifted out. -/
theorem crcShift_eq (c : Word) : crcShift c = (c <<< 1) ^^^ (if c.msb then 0x1021#16 else 0#16) := by
  rw [crcShift, if_congr (and_topBit_ne_zero_iff c) rfl rfl]
  cases c.msb
  · exact BitVec.xor_zero.symm
  · rfl

theorem crcShift_of_msb_false {c : Word} (h : c.msb = false) : crcShift c = c <<< 1 := by
  rw [crcShift_eq, h, if_neg Bool.false_ne_true, BitVec.xor_zero]

theorem ite_xor_zero (a b : Bool) (p : Word) :
    (if a ^^ b then p else 0#16) = (if a then p else 0#16) ^^^ (if b then p else 0#16) := by
  cases a <;> cases b <;> simp

theorem crcShift_xor (c d : Word) : crcShift (c ^^^ d) = crcShift c ^^^ crcShift d := by
  rw [crcShift_eq, crcShift_eq, crcShift_eq, BitVec.shiftLeft_xor_distrib, BitVec.msb_xor, ite_xor_zero]
  ac_rfl

theorem crcShift8_xor (c d : Word) : crcShift8 (c ^^^ d) = crcShift8 c ^^^ crcShift8 d := by
  simp only [crcShift8, crcShift_xor]

/-- While a byte has not reached the top bit, a shift only moves it up. -/
theorem crcShift_byte_shiftLeft (b : Byte) {k : Nat} (hk : k < 8) :
    crcShift (b.setWidth 16 <<< k) = b.setWidth 16 <<< (k + 1) := by
  have hmsb : (b.setWidth 16 <<< k).msb = false := by
    rw [BitVec.msb_shiftLeft, BitVec.getMsbD_setWidth]
    simp only [Bool.and_eq_false_imp, decide_eq_true_eq]
    omega
  rw [crcShift_of_msb_false hmsb, BitVec.shiftLeft_add]

theorem crcShift8_byte (b : Byte) : crcShift8 (b.setWidth 16) = b.setWidth 16 <<< 8 := by
  have hfirst : crcShift (b.setWidth 16) = b.setWidth 16 <<< 1 := by
    simpa using crcShift_byte_shiftLeft b (k := 0) (by decide)
  have hnext {k : Nat} (hk : k < 8) := crcShift_byte_shiftLeft b hk
  simp only [crcShift8, hfirst, hnext, Nat.reduceLT, Nat.reduceAdd]

/-- A word is its two bytes, the upper one moved up. -/
theorem xor_bytes (c : Word) : ((crcMsb c).setWidth 16 <<< 8) ^^^ (crcLsb c).setWidth 16 = c := by
  ext i hi
  by_cases h : i < 8
  · simp [crcMsb, crcLsb, h, BitVec.getLsbD_eq_getElem hi]
  · simp [crcMsb, crcLsb, h, show i - 8 < 8 by omega, show 8 + (i - 8) = i by omega, BitVec.getLsbD_eq_getElem hi]

theorem crcLsb_shiftLeft (c : Word) : (crcLsb c).setWidth 16 <<< 8 = c <<< 8 := by
  ext i hi
  by_cases h : i < 8
  · simp [h]
  · have hlow : i - 8 < 8 := by omega
    simp [crcLsb, h, hlow, BitVec.getLsbD_eq_getElem (show i - 8 < 16 by omega)]

/-! The table, the byte step and the bit-serial form (R120 to R122) -/

/-- The printed table, each of its 256 entries against the procedure of R120. -/
theorem crcTab_eq_crcShift8 (i : Byte) : crcTab i = crcShift8 (i.setWidth 16 <<< 8) := by
  revert i
  decide

/-- The table looks up what eight shifts make of the upper byte, and the lower one they only move up. -/
theorem crcStep_eq_crcShift8 (c : Word) (b : Byte) : crcStep c b = crcShift8 (c ^^^ (b.setWidth 16 <<< 8)) := by
  have hinput : c ^^^ (b.setWidth 16 <<< 8) = ((crcMsb c ^^^ b).setWidth 16 <<< 8) ^^^ (crcLsb c).setWidth 16 := by
    conv_lhs => rw [← xor_bytes c]
    rw [BitVec.setWidth_xor, BitVec.shiftLeft_xor_distrib]
    ac_rfl
  calc crcStep c b
    _ = crcTab (crcMsb c ^^^ b) ^^^ (c <<< 8) := BitVec.xor_comm _ _
    _ = crcShift8 ((crcMsb c ^^^ b).setWidth 16 <<< 8) ^^^ crcShift8 ((crcLsb c).setWidth 16) := by
      rw [crcTab_eq_crcShift8, crcShift8_byte, crcLsb_shiftLeft]
    _ = crcShift8 (c ^^^ (b.setWidth 16 <<< 8)) := by rw [hinput, crcShift8_xor]

theorem foldl_crcStep_eq_crcBitSerial (c : Word) (s : List Byte) : s.foldl crcStep c = crcBitSerial c s := by
  induction s generalizing c with
  | nil => rfl
  | cons b bs ih => rw [List.foldl_cons, crcBitSerial, ih, crcStep_eq_crcShift8]

/-- Settles O20: a byte step is eight bit steps, from any register value. -/
theorem crcEqualsTheBitSerialForm : Obligations.CrcEqualsTheBitSerialForm :=
  foldl_crcStep_eq_crcBitSerial 0x0000#16

theorem crc16_append (s t : List Byte) : crc16 (s ++ t) = t.foldl crcStep (crc16 s) := List.foldl_append

/-- The register's own upper byte looks up entry 0, which is 0. -/
theorem crcStep_crcMsb (c : Word) : crcStep c (crcMsb c) = c <<< 8 := by
  rw [crcStep, crcMsb, BitVec.xor_self, show crcTab 0#8 = 0#16 from rfl, BitVec.xor_zero]

theorem crcMsb_shiftLeft (c : Word) : crcMsb (c <<< 8) = crcLsb c := by
  ext i hi
  simp [crcMsb, crcLsb, show 8 + i < 16 by omega, BitVec.getLsbD_eq_getElem (show i < 16 by omega)]

/-- Settles O21: a zero byte leaves the register 0; msb and then lsb each meet themselves at its top, and 16 shifts empty it. -/
theorem crcOfSequenceAndItsCrcIsZero : Obligations.CrcOfSequenceAndItsCrcIsZero := by
  refine ⟨fun s => congrArg (s.foldl crcStep) (crcStep_crcMsb 0x0000#16), fun s => ?_⟩
  calc crc16 (s ++ [crcMsb (crc16 s), crcLsb (crc16 s)])
    _ = crcStep (crcStep (crc16 s) (crcMsb (crc16 s))) (crcLsb (crc16 s)) := crc16_append s _
    _ = crcStep (crc16 s <<< 8) (crcMsb (crc16 s <<< 8)) := by rw [crcStep_crcMsb, crcMsb_shiftLeft]
    _ = (crc16 s <<< 8) <<< 8 := crcStep_crcMsb _
    _ = crc16 s <<< 16 := (BitVec.shiftLeft_add _ 8 8).symm
    _ = 0x0000#16 := BitVec.shiftLeft_eq_zero (by decide)

theorem crcMsb_eq_setWidth (c : Word) : crcMsb c = (c >>> 8).setWidth 8 := BitVec.setWidth_ushiftRight_eq_extractLsb.symm

theorem crcLsb_eq_setWidth (c : Word) : crcLsb c = (c &&& 0x00FF#16).setWidth 8 := by
  rw [crcLsb, BitVec.setWidth_and, show (0x00FF#16).setWidth 8 = BitVec.allOnes 8 from rfl, BitVec.and_allOnes,
    BitVec.setWidth_eq_extractLsb' (by decide)]

/-- Settles O19: the table by evaluation of its 256 entries, the round by the fold's last step. -/
theorem crcFollowsTheRecurrence : Obligations.CrcFollowsTheRecurrence := by
  refine ⟨crcTab_eq_crcShift8, rfl, fun s b => ?_, fun s => ⟨crcMsb_eq_setWidth _, crcLsb_eq_setWidth _⟩⟩
  rw [crc16_append, List.foldl_cons, List.foldl_nil, crcStep, BitVec.setWidth_ushiftRight_eq_extractLsb]

/-! The checksum (R125, R128) -/

theorem checksum8_toNat (s : List Byte) : (checksum8 s).toNat = (256 - sumBytes s % 256) % 256 := by
  rw [checksum8, BitVec.toNat_ofNat, Nat.mod_mod]

/-- The equality test and the zero-sum test of a received byte agree (R128 (d)). -/
theorem eq_checksum8_iff (s : List Byte) (rc : Byte) : rc = checksum8 s ↔ (sumBytes s + rc.toNat) % 256 = 0 := by
  have hrc : rc.toNat < 256 := rc.isLt
  rw [← BitVec.toNat_inj, checksum8_toNat]
  omega

/-- Settles O22: the contract is the zero-sum test passed by the checksum itself. -/
theorem checksumMakesTheSumZero : Obligations.ChecksumMakesTheSumZero :=
  ⟨fun s => ⟨checksum8_toNat s, (eq_checksum8_iff s _).mp rfl⟩, rfl, eq_checksum8_iff⟩

theorem checksum8_setWidth (s : List Byte) :
    (checksum8 s).setWidth 16 = BitVec.ofNat 16 ((256 - sumBytes s % 256) % 256) := by
  rw [← checksum8_toNat, BitVec.ofNat_toNat]

theorem checksumValid_eq_true (s : List Byte) (received : Byte) :
    checksumValid s received = true ↔ checksum8 s = received ∧ (sumBytes s + received.toNat) % 256 = 0 := by
  rw [checksumValid, Bool.and_eq_true, decide_eq_true_eq, decide_eq_true_eq]

/-! The four commands (R123, R124, R126, R127) -/

/-- The two outcomes of a command that tests its input's length, each under its own test. -/
theorem outcomes_of_length {n : Nat} {p q : Prop} (h : (bufCap < n ∧ p) ∨ (n ≤ bufCap ∧ q)) :
    (260 < n → p) ∧ (n ≤ 260 → q) := by
  obtain ⟨hlt, hp⟩ | ⟨hle, hq⟩ := h
  · exact ⟨fun _ => hp, fun hle => absurd hle (Nat.not_le.mpr hlt)⟩
  · exact ⟨fun hlt => absurd hle (Nat.not_le.mpr hlt), fun _ => hq⟩

/-- Settles O23: the two outcomes of CRCGEN, by its length test. -/
theorem crcgenWritesTheCrc : Obligations.CrcgenWritesTheCrc := by
  have outcomes (s : State) := outcomes_of_length (execCrcgen_cases s)
  exact ⟨rfl, fun s => (outcomes s).left, fun s => (outcomes s).right, rfl⟩

/-- Settles O24: past the length test V is the comparison with ARG, and RC follows V. -/
theorem crcchkComparesWithArg : Obligations.CrcchkComparesWithArg := by
  have outcomes (s : State) := outcomes_of_length (execCrcchk_cases s)
  refine ⟨rfl, fun s => (outcomes s).left, fun s hlen hc => ?_, fun s hlen hc => ?_⟩
  · have hexec := (outcomes s).right hlen
    rwa [decide_eq_true hc, hc] at hexec
  · have hexec := (outcomes s).right hlen
    rwa [decide_eq_false hc] at hexec

/-- Settles O25: the two outcomes of SUMGEN, by its length test. -/
theorem sumgenWritesTheChecksum : Obligations.SumgenWritesTheChecksum := by
  have outcomes (s : State) := outcomes_of_length (execSumgen_cases s)
  refine ⟨rfl, fun s => (outcomes s).left, fun s hlen => ?_, rfl⟩
  rw [← checksum8_setWidth]
  exact (outcomes s).right hlen

/-- Settles O26: past the length test V is `checksumValid` on the low byte of ARG, and RC follows V. -/
theorem sumchkMakesBothTests : Obligations.SumchkMakesBothTests := by
  have outcomes (s : State) := outcomes_of_length (execSumchk_cases s)
  refine ⟨rfl, fun s => (outcomes s).left, ?_⟩
  rintro s _ hlen rfl
  have hexec := (outcomes s).right hlen
  refine ⟨fun htests => ?_, fun htests => ?_⟩
  · rwa [(checksumValid_eq_true _ _).mpr htests] at hexec
  · rwa [Bool.eq_false_iff.mpr (mt (checksumValid_eq_true _ _).mp htests)] at hexec

end Sys2Proof.Machine
end

section
/-! PROOF. The Frame Builder and Parser: the layout of a sealed frame, the parser on every input, their round trip, and the
commands SEAL and UNSEAL (42_frame_codec.md R140 to R153). -/

namespace Sys2Proof.Machine

/-! The builder (R141, R143) -/

theorem sealFrame_crc16 (a h : Byte) (p : List Byte) :
    sealFrame .crc16 a h p =
      a :: BitVec.ofNat 8 p.length :: crcLsb (crc16 (baseFrame a h p)) :: h :: (p ++ [crcMsb (crc16 (baseFrame a h p))]) :=
  rfl

/-- The frame a checksum is taken over has the source byte in place. -/
theorem sealFrame_sum8 (a h : Byte) (p : List Byte) :
    sealFrame .sum8 a h p =
      (a :: BitVec.ofNat 8 p.length :: sourceByte :: h :: p) ++
        [checksum8 (a :: BitVec.ofNat 8 p.length :: sourceByte :: h :: p)] :=
  rfl

/-- Settles O27: the two layouts by evaluation of `insertAt`, the length for both modes at once. -/
theorem sealedFramesHaveTheirLayout : Obligations.SealedFramesHaveTheirLayout := fun a h p =>
  ⟨sealFrame_crc16 a h p, sealFrame_sum8 a h p, fun m => length_sealFrame m a h p⟩

theorem sumBytes_append (s t : List Byte) : sumBytes (s ++ t) = sumBytes s + sumBytes t := by
  induction s with
  | nil => exact (Nat.zero_add _).symm
  | cons b bs ih => rw [List.cons_append, sumBytes, sumBytes, ih, Nat.add_assoc]

/-- Settles O29: the frame's last byte is the checksum of the rest, and the checksum's contract is a zero sum. -/
theorem sealedChecksumFramesSumToZero : Obligations.SealedChecksumFramesSumToZero := by
  intro a h p
  rw [sealFrame_sum8, sumBytes_append]
  exact (checksumMakesTheSumZero.left _).right

/-! The parser (R147, R148) -/

theorem crcMsb_append_crcLsb (c : Word) : crcMsb c ++ crcLsb c = c := BitVec.extractLsb'_append_extractLsb'

/-- The two byte comparisons of the CRC test are one comparison of words. -/
theorem word_eq_append_iff (c : Word) (z x : Byte) : c = z ++ x ↔ crcMsb c = z ∧ crcLsb c = x := by
  constructor
  · rintro rfl
    exact ⟨BitVec.extractLsb'_append_eq_left, BitVec.extractLsb'_append_eq_right⟩
  · rintro ⟨rfl, rfl⟩
    exact (crcMsb_append_crcLsb c).symm

/-- The CRC received is the last byte above the byte at index 2. -/
theorem unsealFrame_crc16_concat (f : List Byte) (z : Byte) (hf : 4 ≤ f.length) :
    unsealFrame .crc16 (f ++ [z]) =
      { stripped := removeAt f 2, valid := decide (crc16 (removeAt f 2) = z ++ f[2]), malformed := false } := by
  have hlong : ¬ (f ++ [z]).length < 5 := by simpa using hf
  have hlsb : (f ++ [z])[2]? = some f[2] := by
    rw [List.getElem?_append_left (by omega), List.getElem?_eq_getElem]
  simp only [unsealFrame, if_neg hlong, unsealCrc, List.dropLast_concat, List.getLast?_concat, hlsb, Option.some.injEq,
    word_eq_append_iff, Bool.decide_and]

theorem checksumValid_eq_decide (s : List Byte) (received : Byte) :
    checksumValid s received = decide (checksum8 s = received ∧ (sumBytes s + received.toNat) % 256 = 0) :=
  (Bool.decide_and _ _).symm

/-- The checksum is tested on every byte before the last, the source byte with them. -/
theorem unsealFrame_sum8_concat (f : List Byte) (z : Byte) (hf : 1 ≤ f.length) :
    unsealFrame .sum8 (f ++ [z]) =
      { stripped := if 3 ≤ f.length then removeAt f 2 else f
        valid := decide (checksum8 f = z ∧ (sumBytes f + z.toNat) % 256 = 0)
        malformed := false } := by
  have hlong : ¬ (f ++ [z]).length < 2 := by
    rw [List.length_append, List.length_singleton]
    omega
  simp only [unsealFrame, if_neg hlong, unsealSum, List.dropLast_concat, List.getLast?_concat, checksumValid_eq_decide]

/-- Settles O30: below its mode's minimum a frame comes back whole; above it the last byte comes off and the test follows. -/
theorem unsealFollowsTheParserRules : Obligations.UnsealFollowsTheParserRules := by
  refine ⟨fun r hr => if_pos hr, fun x0 x1 x2 z mid hmid => ?_, fun r hr => if_pos hr, fun x0 z => ?_, fun x0 x1 z => ?_,
    fun x0 x1 x2 z mid => ?_⟩
  · have hmid_pos : 0 < mid.length := List.length_pos_iff.mpr hmid
    exact unsealFrame_crc16_concat (x0 :: x1 :: x2 :: mid) z (Nat.add_le_add_right hmid_pos 3)
  · exact unsealFrame_sum8_concat [x0] z (Nat.le_refl 1)
  · exact unsealFrame_sum8_concat [x0, x1] z (Nat.le_succ 1)
  · have hsource : 3 ≤ (x0 :: x1 :: x2 :: mid).length := Nat.le_add_left 3 mid.length
    have hrule := unsealFrame_sum8_concat (x0 :: x1 :: x2 :: mid) z (Nat.le_add_left 1 _)
    rwa [if_pos hsource] at hrule

/-- Settles O28: the bytes the parser removes are those the builder added, and the verdict compares the frame's own check value
with itself. The parser does not read the length byte, so the bound on the payload is not used. -/
theorem unsealUndoesSeal : Obligations.UnsealUndoesSeal := by
  obtain ⟨-, hcrcRule, -, -, -, hsumRule⟩ := unsealFollowsTheParserRules
  intro m a h p _
  cases m with
  | crc16 =>
    have hvalid : crc16 (baseFrame a h p) = crcMsb (crc16 (baseFrame a h p)) ++ crcLsb (crc16 (baseFrame a h p)) :=
      (crcMsb_append_crcLsb _).symm
    refine (hcrcRule _ _ _ _ (h :: p) (List.cons_ne_nil h p)).trans ?_
    exact congrArg (Unsealed.mk _ · false) (decide_eq_true hvalid)
  | sum8 =>
    refine (hsumRule _ _ _ _ (h :: p)).trans ?_
    exact congrArg (Unsealed.mk _ · false) (decide_eq_true ⟨rfl, (checksumMakesTheSumZero.left _).right⟩)

/-! The commands (R144, R150) -/

theorem length_ibufInput (s : State) : (ibufInput s).length = s.ilen.toNat := Memory.length_bytes _ _ _

/-- The three outcomes of a command that tests MODE and then its input's length, each under its own tests. -/
theorem outcomes_of_mode_and_length {limit n : Nat} {mode : BitVec 2} {p q : Prop} {r : IntegrityMode → Prop}
    (h : ((mode = 0#2 ∨ mode = 3#2) ∧ p) ∨
      ∃ m : IntegrityMode, mode = m.code ∧ ((limit < n ∧ q) ∨ (n ≤ limit ∧ r m))) :
    ((mode = 0#2 ∨ mode = 3#2) → p) ∧ (modeSelected mode → limit < n → q) ∧
      (modeSelected mode → n ≤ limit → r (if mode = 1#2 then .crc16 else .sum8)) := by
  obtain ⟨hinvalid, hp⟩ | ⟨m, rfl, hlength⟩ := h
  · have hnone : ¬ modeSelected mode := by
      obtain rfl | rfl := hinvalid <;> simp [modeSelected]
    exact ⟨fun _ => hp, fun hmode => absurd hmode hnone, fun hmode => absurd hmode hnone⟩
  · have hvalid : ¬ (m.code = 0#2 ∨ m.code = 3#2) := by cases m <;> decide
    have hm : (if m.code = 1#2 then .crc16 else .sum8) = m := by cases m <;> rfl
    rw [hm]
    refine ⟨fun hinvalid => absurd hinvalid hvalid, ?_⟩
    obtain ⟨hlt, hq⟩ | ⟨hle, hr⟩ := hlength
    · exact ⟨fun _ _ => hq, fun _ hle => absurd hle (Nat.not_le.mpr hlt)⟩
    · exact ⟨fun _ hlt => absurd hle (Nat.not_le.mpr hlt), fun _ _ => hr⟩

/-- Settles O32: the three outcomes of SEAL; OBUF is rewritten whole, so it holds the frame and nothing else. -/
theorem sealPutsTheFrameInObuf : Obligations.SealPutsTheFrameInObuf := by
  have outcomes (s : State) := outcomes_of_mode_and_length (execSeal_cases s)
  refine ⟨rfl, fun s => (outcomes s).left, fun s => (outcomes s).right.left, fun s hmode hlen => ?_, rfl, rfl⟩
  have hframe (m : IntegrityMode) : (sealFrame m s.addr s.hdr (ibufInput s)).length = s.ilen.toNat + 5 := by
    rw [length_sealFrame, length_ibufInput]
  refine ⟨_, ?_, Memory.get?_ofBytes _⟩
  rw [← hframe (if s.mode = 1#2 then .crc16 else .sum8)]
  exact (outcomes s).right.right hmode hlen

/-- Settles O33: the three outcomes of UNSEAL; RC is the parser's verdict. -/
theorem unsealPutsTheStrippedFrameInObuf : Obligations.UnsealPutsTheStrippedFrameInObuf := by
  have outcomes (s : State) := outcomes_of_mode_and_length (execUnseal_cases s)
  refine ⟨rfl, fun s => (outcomes s).left, fun s => (outcomes s).right.left, fun s hmode hlen => ?_, rfl⟩
  exact ⟨_, (outcomes s).right.right hmode hlen, Memory.get?_ofBytes _⟩

end Sys2Proof.Machine
end

section
/-! PROOF. The Transport Session: OPEN, every outcome of an exchange with its SER transactions, and XCHG
(43_transport_session.md R161 to R177). -/

namespace Sys2Proof.Machine

/-! OPEN (R161) -/

/-- Settles O34: the two outcomes of OPEN, each under its own tests of MODE and ADDR. -/
theorem openConstructsTheSession : Obligations.OpenConstructsTheSession := by
  refine ⟨rfl, fun s hbad => ?_, fun s hmode haddr => ?_⟩
  · obtain ⟨-, hexec⟩ | ⟨⟨m, hm⟩, haddr, -⟩ := execOpen_cases s
    · exact hexec
    · rw [hm] at hbad
      cases m <;> simp [IntegrityMode.code, haddr] at hbad
  · obtain ⟨hbad, -⟩ | ⟨-, -, hexec⟩ := execOpen_cases s
    · obtain hm | hm := hmode <;> simp [hm, haddr] at hbad
    · exact hexec

/-! The outcomes of an exchange (R170, R173, R174) -/

/-- `exchange_cases` with a complete frame taken apart into its bytes: the length read is short; or the body read is short; or
the frame is complete, and is a response unless the echo and it together are no longer than what was written. -/
theorem exchange_outcomes (a : Byte) (m : IntegrityMode) (t : Word) (h : Byte) (p : List Byte) (l : SerLine) :
    (exchange a m t h p l).echo = (echoRead a m t h p l).bytes.length ∧
    (((lengthRead a m t h p l).bytes.length < 2 ∧ (exchange a m t h p l).response = none ∧
        (exchange a m t h p l).line = (lengthRead a m t h p l).line) ∨
      ∃ r0 n : Byte, (lengthRead a m t h p l).bytes = [r0, n] ∧
        (exchange a m t h p l).line = (bodyRead a m t h p l n).line ∧
        (((bodyRead a m t h p l n).bytes.length < n.toNat + 3 ∧ (exchange a m t h p l).response = none) ∨
          ∃ (x2 rh z : Byte) (pl : List Byte), (bodyRead a m t h p l n).bytes = [x2, rh] ++ pl ++ [z] ∧
            pl.length = n.toNat ∧
            (exchange a m t h p l).response =
              if (echoRead a m t h p l).bytes.length + n.toNat + 5 ≤ (sealFrame m a h p).length then none
              else some
                { raddr := r0, rhdr := rh, payload := pl
                  valid := (unsealFrame m ([r0, n, x2, rh] ++ pl ++ [z])).valid })) := by
  obtain ⟨hshort, hx⟩ | ⟨r0, n, hhead, ⟨hshort, hx⟩ | ⟨hfull, hx⟩⟩ := exchange_cases a m t h p l <;> rw [hx]
  · exact ⟨rfl, .inl ⟨hshort, rfl, rfl⟩⟩
  · exact ⟨rfl, .inr ⟨r0, n, hhead, rfl, .inl ⟨hshort, rfl⟩⟩⟩
  · obtain ⟨x2, rh, z, pl, hbody, hpl⟩ := body_shape n.toNat _ hfull
    refine ⟨rfl, .inr ⟨r0, n, hhead, rfl, .inr ⟨x2, rh, z, pl, hbody, hpl, ?_⟩⟩⟩
    simp only [hbody, parseResponse_complete]
    exact if_congr (by omega) rfl rfl

/-- Settles O35: each outcome of the exchange meets its own cause, and a response meets none. -/
theorem noResponseHasThreeCauses : Obligations.NoResponseHasThreeCauses := by
  intro a m t h p l f e hd x
  obtain ⟨hecho, hout⟩ := exchange_outcomes a m t h p l
  refine ⟨hecho, ?_⟩
  obtain ⟨hshort, hnone, -⟩ | ⟨r0, n, hhead, -, hbody⟩ := hout
  · exact iff_of_true hnone (.inl hshort)
  · have htwo : ¬ hd.bytes.length < 2 := Nat.not_lt.mpr (congrArg List.length hhead).ge
    have hn : hd.bytes[1]? = some n := congrArg (·[1]?) hhead
    rw [or_iff_right htwo, hn]
    simp only [Option.some.injEq, exists_eq_left']
    obtain ⟨hshort, hnone⟩ | ⟨x2, rh, z, pl, hbytes, hpl, hresponse⟩ := hbody
    · exact iff_of_true hnone (.inl hshort)
    · have hfull : ¬ (bodyRead a m t h p l n).bytes.length < n.toNat + 3 := by simp [hbytes, hpl]
      refine Iff.trans ?_ (or_iff_right hfull).symm
      rw [show x.response = _ from hresponse]
      exact Ne.ite_eq_left_iff nofun

/-- Settles O36: of the outcomes of the exchange only the complete frame gives a response, and it gives this one. -/
theorem responseIsCutFromTheFrame : Obligations.ResponseIsCutFromTheFrame := by
  intro a m t h p l r hr
  obtain ⟨-, ⟨-, hnone, -⟩ | ⟨r0, n, hhead, -, ⟨-, hnone⟩ | ⟨x2, rh, z, pl, hbytes, hpl, hresponse⟩⟩⟩ :=
    exchange_outcomes a m t h p l
  · cases hnone.symm.trans hr
  · cases hnone.symm.trans hr
  · rw [hr] at hresponse
    split at hresponse
    · cases hresponse
    · cases hresponse
      exact ⟨n, x2, z, hhead, hpl, hbytes, rfl⟩

/-! The SER transactions of an exchange (R177) -/

theorem trace_lengthRead (a : Byte) (m : IntegrityMode) (t : Word) (h : Byte) (p : List Byte) (l : SerLine) :
    (lengthRead a m t h p l).line.trace =
      l.trace ++ [.flush, .write (sealFrame m a h p), .read (sealFrame m a h p).length t, .read 2 t] := by
  simp only [lengthRead, echoRead, trace_serRead, trace_serWrite, trace_serFlush, List.append_assoc, List.cons_append,
    List.nil_append]

/-- Settles O37: the port is left by the length read or by the body read, whichever is last, and each read is traced. -/
theorem exchangeHasItsSerTrace : Obligations.ExchangeHasItsSerTrace := by
  intro a m t h p l f hd
  have htrace : hd.line.trace = l.trace ++ [.flush, .write f, .read f.length t, .read 2 t] := trace_lengthRead a m t h p l
  obtain ⟨-, ⟨hshort, -, hline⟩ | ⟨r0, n, hhead, hline, -⟩⟩ := exchange_outcomes a m t h p l
  · have hlast : (exchange a m t h p l).line = hd.line := hline
    have hn : hd.bytes[1]? = none := List.getElem?_eq_none (Nat.le_of_lt_succ hshort)
    rw [hn, hlast, htrace]
    exact ⟨(List.append_nil _).symm, rfl⟩
  · have hlast : (exchange a m t h p l).line = (serRead (n.toNat + 3) t hd.line).line := hline
    have hn : hd.bytes[1]? = some n := congrArg (·[1]?) hhead
    rw [hn, hlast, trace_serRead, htrace]
    exact ⟨rfl, rfl⟩

/-! XCHG (R171) -/

/-- XCHG leaves the session IDLE by keeping it so. -/
theorem afterExchange_of_idle {s : State} (hs : s.sess = .idle) :
    afterExchange s = { drawn s.ilen.toNat s with
      ser := (xchgExchange s).line, ecnt := BitVec.ofNat 9 (xchgExchange s).echo
      w := decide ((xchgExchange s).echo = 0) } := by
  rw [afterExchange, ← hs]
  rfl

/-- Settles O38: the tests in order, then the record of NO_RESPONSE or of the response. -/
theorem xchgRecordsTheExchange : Obligations.XchgRecordsTheExchange := by
  refine ⟨rfl, fun s hs => ?_, fun s hs hlen => ?_, ?_⟩
  · exact (execXchg_eq s).trans (if_pos ((opened_eq_false s).mpr hs))
  · have hopen : ¬ opened s = false := by simp [hs]
    exact (execXchg_eq s).trans ((if_neg hopen).trans (if_pos ((lengthBad_eq_true 255 s).mpr hlen)))
  · rintro s _ hs hlen rfl
    have hopen : ¬ opened s = false := by simp [hs]
    have hfits : ¬ lengthBad maxPayload s = true := by simpa [maxPayload] using hlen
    have hexec : exec .xchg s = .next (recordExchange (xchgExchange s).response (afterExchange s)) :=
      (execXchg_eq s).trans ((if_neg hopen).trans (if_neg hfits))
    rw [afterExchange_of_idle hs] at hexec
    refine ⟨fun hnone => ?_, fun r hsome => ⟨Memory.ofBytes r.payload, ?_, Memory.get?_ofBytes r.payload⟩⟩
    · rwa [show (xchgExchange s).response = none from hnone] at hexec
    · rwa [show (xchgExchange s).response = some r from hsome] at hexec

end Sys2Proof.Machine
end

section
/-! PROOF. The Event Decoders: the pairs of a payload, the bill partition, the classification of a pair, and DECBILL, DECCOIN and
DECODE (44_event_decoders.md R190 to R199). -/

namespace Sys2Proof.Machine

/-! The pairs of a payload (R190) -/

theorem eventCounter_eq_getD (q : List Byte) : eventCounter q = q[0]?.getD 0#8 := by cases q <;> rfl

/-- A pair whose two bytes are present is those bytes. -/
theorem eventPair_of_present {q : List Byte} {k : Nat} (hk : 1 ≤ k) (h : 2 * k + 1 ≤ q.length) :
    q[2 * k - 1]? = some (eventPair q k).1 ∧ q[2 * k]? = some (eventPair q k).2 := by
  have hdrop : q.drop (2 * k - 1) = q[2 * k - 1] :: q[2 * k] :: q.drop (2 * k + 1) := by
    rw [List.drop_eq_getElem_cons (by omega), show 2 * k - 1 + 1 = 2 * k by omega, List.drop_eq_getElem_cons (by omega)]
  rw [eventPair, hdrop]
  exact ⟨List.getElem?_eq_getElem _, List.getElem?_eq_getElem _⟩

/-- A pair that lacks a byte is (0, 0): a lone first byte goes with its pair. -/
theorem eventPair_of_missing {q : List Byte} {k : Nat} (h : q.length < 2 * k + 1) : eventPair q k = (0#8, 0#8) := by
  have hshort : (q.drop (2 * k - 1)).length ≤ 1 := by rw [List.length_drop]; omega
  unfold eventPair
  split
  next a b rest heq => simp [heq] at hshort
  next => rfl

/-- Settles O39: pair k is present exactly when the payload reaches byte 2k. -/
theorem pairsAreReadWholeOrAsZero : Obligations.PairsAreReadWholeOrAsZero := by
  intro q
  refine ⟨fun h => ?_, fun c h => ?_, fun k hk _ => ⟨eventPair_of_present hk, eventPair_of_missing⟩⟩
  · rw [h, eventCounter]
  · rw [eventCounter_eq_getD, h, Option.getD_some]

/-! The bill partition and the classification of a pair (R191 to R195, R199) -/

/-- Settles O40: the lists `billCat` looks a code up in have no code in common, and the last class is what they leave. -/
theorem billCodesArePartitioned : Obligations.BillCodesArePartitioned := by
  intro c
  refine ⟨fun h => ?_, fun h => ?_, fun h => ?_, fun h => ?_⟩
  · exact if_pos (List.contains_iff_mem.mpr h)
  · simp only [List.mem_cons, List.not_mem_nil, or_false] at h
    obtain h | h := h <;> simp [billCat, h]
  · simp only [List.mem_cons, List.not_mem_nil, or_false] at h
    obtain h | h | h | h | h | h := h <;> simp [billCat, h]
  · have hleft : ∀ codes : List Nat, c.toNat ∉ codes → ¬ codes.contains c.toNat = true :=
      fun _ h => mt List.contains_iff_mem.mp h
    simp only [List.mem_cons, List.not_mem_nil, or_false] at h
    rw [billCat, if_neg (hleft _ ?_), if_neg (hleft _ ?_), if_neg (hleft _ ?_)]
    all_goals
      simp only [List.mem_cons, List.not_mem_nil, or_false]
      omega

theorem classifyBill_zero (b : Byte) : classifyBill 0#8 b = (codeCategory (billCat b), .na) := rfl

theorem classifyCoin_zero (b : Byte) : classifyCoin 0#8 b = (codeCategory (Config.coinCat b), .na) := rfl

theorem classifyBill_credit {a : Byte} (ha : a ≠ 0#8) (b : Byte) :
    classifyBill a b = (.credit, if b = 0#8 then .cashbox else if b = 1#8 then .escrow else .unknown) := if_neg ha

theorem classifyCoin_credit {a : Byte} (ha : a ≠ 0#8) (b : Byte) : classifyCoin a b = (.credit, .na) := if_neg ha

/-- Settles O41: a pair is classified by whether A is 0; the codes and strings are those of the tables. -/
theorem pairsAreClassified : Obligations.PairsAreClassified :=
  ⟨fun b => ⟨classifyBill_zero b, classifyCoin_zero b⟩,
    fun _ b ha => ⟨classifyBill_credit ha b, classifyCoin_credit ha b⟩,
    rfl, rfl, rfl,
    fun a b => ⟨(classifyBill_decoded a b).1, classifyCoin_ne_none a b⟩,
    rfl, by decide⟩

/-! DECBILL and DECCOIN (R196, R197) -/

theorem getElem_eventBatch (classify : Byte → Byte → Category × Route) (q : List Byte) (k : Fin 5) :
    (eventBatch classify q)[k] = eventRecord classify q (k.val + 1) := by fin_cases k <;> rfl

/-- The length error is S = 0's alone. -/
theorem decodeEvents_of_too_long (kind : EventKind) (classify : Byte → Byte → Category × Route) {s : State}
    (h : bufCap < s.ilen.toNat) : decodeEvents kind classify .ibuf s = complete .lengthError s :=
  if_pos ((lengthBad_eq_true bufCap s).mpr h)

theorem decodeEvents_of_fits (kind : EventKind) (classify : Byte → Byte → Category × Route) {src : Source} {s : State}
    (h : src = .ibuf → s.ilen.toNat ≤ bufCap) : decodeEvents kind classify src s =
      complete .ok { drawn (sourceLength src s) s with
        evcnt := eventCounter (sourceInput src s), evkind := kind, evt := eventBatch classify (sourceInput src s) } := by
  obtain ⟨hsrc, hlen, -⟩ | ⟨-, ht⟩ := decodeEvents_cases kind classify src s
  · exact absurd (h hsrc) (Nat.not_le.mpr hlen)
  · exact ht

/-- What DECBILL and DECCOIN write from an input of legal length, each with its own kind and classification. -/
theorem decodeEvents_writesFiveRecords (kind : EventKind) (classify : Byte → Byte → Category × Route) {src : Source}
    {s : State} {q : List Byte} {n : Nat}
    (h : (src = .ibuf ∧ s.ilen.toNat ≤ 260 ∧ q = ibufInput s ∧ n = s.ilen.toNat) ∨
      (src = .obuf ∧ q = obufInput s ∧ n = s.olen.toNat)) :
    ∃ ev : Vector EventRecord 5,
      (.next (decodeEvents kind classify src s) : Host.Outcome State Fault Refusal) =
        .next { s with
          evcnt := eventCounter q, evkind := kind, evt := ev, rc := .ok, busy := false, draws := s.draws + n } ∧
      ∀ k : Fin 5, ∃ a b : Byte, (a, b) = eventPair q (k.val + 1) ∧ (ev[k]).ra = a ∧ (ev[k]).rb = b ∧
        ((ev[k]).cat, (ev[k]).route) = classify a b := by
  refine ⟨eventBatch classify q, congrArg Host.Outcome.next ?_, fun k => ?_⟩
  · obtain ⟨rfl, hlen, rfl, rfl⟩ | ⟨rfl, rfl, rfl⟩ := h
    · exact decodeEvents_of_fits kind classify fun _ => hlen
    · exact decodeEvents_of_fits kind classify nofun
  · rw [getElem_eventBatch]
    exact ⟨_, _, rfl, rfl, rfl, rfl⟩

/-- Settles O42: DECBILL is `decodeEvents` with the bill classification. -/
theorem decbillWritesFiveRecords : Obligations.DecbillWritesFiveRecords :=
  ⟨rfl, rfl, fun _ h => congrArg Host.Outcome.next (decodeEvents_of_too_long .bill classifyBill h),
    fun _ _ _ _ => decodeEvents_writesFiveRecords .bill classifyBill⟩

/-- Settles O43: DECCOIN is `decodeEvents` with the coin classification, whatever `COIN_CAT` is. -/
theorem deccoinWritesFiveRecords : Obligations.DeccoinWritesFiveRecords :=
  ⟨rfl, rfl, fun _ h => congrArg Host.Outcome.next (decodeEvents_of_too_long .coin classifyCoin h),
    fun _ _ _ _ => decodeEvents_writesFiveRecords .coin classifyCoin⟩

/-! DECODE (R198) -/

theorem exec_decode_of_bill (src : Source) {s : State} (h : s.hdr = 159#8) :
    exec (.decode src) s = exec (.decbill src) s := if_pos h

theorem exec_decode_of_coin (src : Source) {s : State} (h : s.hdr = 229#8) :
    exec (.decode src) s = exec (.deccoin src) s := by
  have hbill : s.hdr ≠ 159#8 := by rw [h]; decide
  exact (if_neg hbill).trans (if_pos h)

theorem exec_decode_of_other (src : Source) {s : State} (hbill : s.hdr ≠ 159#8) (hcoin : s.hdr ≠ 229#8) :
    exec (.decode src) s = .next (complete .notEvent s) := (if_neg hbill).trans (if_neg hcoin)

/-- The header selects which of the two decoders runs; both are `decodeEvents`. -/
theorem exec_decode_of_event (src : Source) {s : State} (h : s.hdr = 159#8 ∨ s.hdr = 229#8) :
    ∃ classify, exec (.decode src) s =
      .next (decodeEvents (if s.hdr = 159#8 then .bill else .coin) classify src s) := by
  obtain h | h := h
  · exact ⟨classifyBill, by rw [if_pos h]; exact exec_decode_of_bill src h⟩
  · exact ⟨classifyCoin, by rw [if_neg (by rw [h]; decide)]; exact exec_decode_of_coin src h⟩

theorem sourceInput_eq_ite (src : Source) (s : State) :
    sourceInput src s = if src = .obuf then obufInput s else ibufInput s := by cases src <;> rfl

/-- Settles O44: the header test comes first; past it DECODE is the selected decoder, and an input of legal length is decoded. -/
theorem decodeSelectsByHeader : Obligations.DecodeSelectsByHeader := by
  refine ⟨rfl, rfl, fun _ src => exec_decode_of_bill src, fun _ src => exec_decode_of_coin src,
    fun _ src => exec_decode_of_other src, fun s src hhdr hlen => ?_⟩
  obtain ⟨classify, hexec⟩ := exec_decode_of_event src hhdr
  have hfits : src = .ibuf → s.ilen.toNat ≤ bufCap := by
    rintro rfl
    exact hlen.resolve_left nofun
  rw [decodeEvents_of_fits _ classify hfits] at hexec
  exact ⟨_, hexec, rfl, rfl, congrArg eventCounter (sourceInput_eq_ite src s)⟩

end Sys2Proof.Machine
end

section
/-! PROOF. The probe sequence of a sweep: `scanOrder` enumerates the addresses 1..255, and `SCAN_SEQ` is the list of the machine's
own probes (45_scanner.md R220). -/

namespace Sys2Proof.Machine

/-! The addresses in probe order -/

theorem scanOrder_range {i : Nat} (hi : i < 255) : 1 ≤ scanOrder i ∧ scanOrder i ≤ 255 := by
  unfold scanOrder
  split_ifs <;> omega

theorem scanOrder_injective {i j : Nat} (h : scanOrder i = scanOrder j) : i = j := by
  unfold scanOrder at h
  split_ifs at h <;> omega

/-- Each index of R220's list is under exactly one of its five premises. -/
theorem eq_scanOrder {i n : Nat} (h0 : i = 0 → n = 40) (h1 : i = 1 → n = 2) (h2 : i = 2 → n = 1)
    (hlow : 3 ≤ i → i ≤ 39 → n = i) (hhigh : 40 ≤ i → n = i + 1) : n = scanOrder i := by
  unfold scanOrder
  split_ifs <;> omega

theorem scanOrder_of_le {i : Nat} (h3 : 3 ≤ i) (h39 : i ≤ 39) : scanOrder i = i := by
  unfold scanOrder
  split_ifs <;> omega

theorem scanOrder_of_ge {i : Nat} (h40 : 40 ≤ i) : scanOrder i = i + 1 := by
  unfold scanOrder
  split_ifs <;> omega

theorem exists_scanOrder_eq {n : Nat} (h1 : 1 ≤ n) (h255 : n ≤ 255) : ∃ i, i < 255 ∧ scanOrder i = n := by
  obtain rfl | rfl | rfl | ⟨h3, h39⟩ | h41 : n = 40 ∨ n = 2 ∨ n = 1 ∨ (3 ≤ n ∧ n ≤ 39) ∨ 41 ≤ n := by omega
  · exact ⟨0, by decide, rfl⟩
  · exact ⟨1, by decide, rfl⟩
  · exact ⟨2, by decide, rfl⟩
  · exact ⟨n, by omega, scanOrder_of_le h3 h39⟩
  · exact ⟨n - 1, by omega, (scanOrder_of_ge (by omega)).trans (by omega)⟩

/-! The probes by number -/

theorem toNat_scanAddress {j : Nat} (hj : j < 510) : (scanAddress j).toNat = scanOrder (j / 2) := by
  have hrange := scanOrder_range (i := j / 2) (by omega)
  rw [scanAddress, BitVec.toNat_ofNat]
  omega

theorem scanAddress_even (i : Nat) : scanAddress (2 * i) = BitVec.ofNat 8 (scanOrder i) := by
  rw [scanAddress, Nat.mul_div_cancel_left i Nat.two_pos]

theorem scanAddress_odd (i : Nat) : scanAddress (2 * i + 1) = BitVec.ofNat 8 (scanOrder i) := by
  rw [scanAddress, show (2 * i + 1) / 2 = i by omega]

theorem scanMode_even (i : Nat) : scanMode (2 * i) = .crc16 := if_pos (Nat.mul_mod_right 2 i)

theorem scanMode_odd (i : Nat) : scanMode (2 * i + 1) = .sum8 := if_neg (by omega)

theorem mod_two_eq_of_scanMode {j k : Nat} (h : scanMode j = scanMode k) : j % 2 = k % 2 := by
  unfold scanMode at h
  split_ifs at h <;> omega

/-- No two probes of a sweep are alike. -/
theorem probe_injective {j k : Nat} (hj : j < 510) (hk : k < 510) (ha : scanAddress j = scanAddress k)
    (hm : scanMode j = scanMode k) : j = k := by
  have haddress : scanOrder (j / 2) = scanOrder (k / 2) := by rw [← toNat_scanAddress hj, ← toNat_scanAddress hk, ha]
  have hdiv := scanOrder_injective haddress
  have hmod := mod_two_eq_of_scanMode hm
  omega

/-- Every address but 0 is probed in both modes. -/
theorem exists_probe (a : Byte) (m : IntegrityMode) (ha : a ≠ 0#8) : ∃ j, j < 510 ∧ scanAddress j = a ∧ scanMode j = m := by
  have h1 : 1 ≤ a.toNat := Nat.pos_of_ne_zero fun h => ha (BitVec.eq_of_toNat_eq h)
  obtain ⟨i, hi, hn⟩ := exists_scanOrder_eq h1 (Nat.le_of_lt_succ a.isLt)
  have haddress : BitVec.ofNat 8 (scanOrder i) = a := by rw [hn, BitVec.ofNat_toNat, BitVec.setWidth_eq]
  cases m with
  | crc16 => exact ⟨2 * i, by omega, (scanAddress_even i).trans haddress, scanMode_even i⟩
  | sum8 => exact ⟨2 * i + 1, by omega, (scanAddress_odd i).trans haddress, scanMode_odd i⟩

/-- Settles O45: `scanOrder` enumerates 1..255, and a probe's number is the position of its address doubled, plus its mode. -/
theorem probeSequenceCoversTheBus : Obligations.ProbeSequenceCoversTheBus := by
  refine ⟨fun i _ n h0 h1 h2 hlow hhigh => ?_, fun a m ha => ?_, fun j hj => scanAddress_ne_zero j hj⟩
  · rw [eq_scanOrder h0 h1 h2 hlow hhigh]
    exact ⟨scanAddress_even i, scanMode_even i, scanAddress_odd i, scanMode_odd i⟩
  · obtain ⟨j, hj, rfl, rfl⟩ := exists_probe a m ha
    exact ⟨j, hj, rfl, rfl, fun k hk haddress hmode => probe_injective hk hj haddress hmode⟩

/-! SCAN_SEQ -/

/-- R220's list is the machine's: both are 40, 2, 1, then 3..39, then 41..255. -/
theorem scanOrderList_eq : scanOrderList = (List.range 255).map scanOrder := by
  have hsplit : List.range' 3 253 = List.range' 3 37 ++ 40 :: List.range' 41 215 :=
    (List.range'_append_1 (s := 3) (m := 37) (n := 216)).symm
  have hlow : (List.range' 3 37).filter (fun a => decide (a ≠ 40)) = (List.range' 3 37).map scanOrder := by decide
  have hhigh : (List.range' 41 215).filter (fun a => decide (a ≠ 40)) = List.range' 41 215 := by
    refine List.filter_eq_self.mpr fun a ha => decide_eq_true ?_
    have := List.mem_range'_1.mp ha
    omega
  have hshift : (List.range' 40 215).map scanOrder = List.range' 41 215 := by
    rw [← List.map_add_range' (a := 1) 40]
    refine List.map_congr_left fun i hi => ?_
    rw [scanOrder_of_ge (List.mem_range'_1.mp hi).1, Nat.add_comm]
  calc scanOrderList
    _ = [40, 2, 1] ++ ((List.range' 3 37).map scanOrder ++ List.range' 41 215) := by
      rw [scanOrderList, hsplit, List.filter_append, List.filter_cons_of_neg (by decide), hlow, hhigh]
    _ = (List.range' 0 3 ++ (List.range' 3 37 ++ List.range' 40 215)).map scanOrder := by
      rw [List.map_append, List.map_append, hshift]
      rfl
    _ = (List.range 255).map scanOrder := by
      rw [List.range'_append_1, List.range'_append_1, List.range_eq_range']

/-- Of `2 * n` values in a row, those at `2 * i` and `2 * i + 1` stand together. -/
theorem map_range_two_mul {α : Type} (f : Nat → α) (n : Nat) :
    (List.range (2 * n)).map f = (List.range n).flatMap fun i => [f (2 * i), f (2 * i + 1)] := by
  induction n with
  | zero => rfl
  | succ n ih =>
    rw [Nat.mul_succ, List.range_succ, List.range_succ, List.range_succ, List.flatMap_append, ← ih]
    simp

/-- `SCAN_SEQ` is the machine's own probes in order. -/
theorem scanSeq_eq : scanSeq = (List.range 510).map fun j => (scanAddress j, scanMode j) := by
  rw [scanSeq, scanOrderList_eq, List.flatMap_map, map_range_two_mul _ 255]
  simp only [scanAddress_even, scanAddress_odd, scanMode_even, scanMode_odd]

theorem length_scanSeq : scanSeq.length = 510 := by rw [scanSeq_eq, List.length_map, List.length_range]

theorem getElem?_scanSeq {j : Nat} (hj : j < 510) : scanSeq[j]? = some (scanAddress j, scanMode j) := by
  rw [scanSeq_eq, List.getElem?_map, List.getElem?_range hj, Option.map_some]

end Sys2Proof.Machine
end

section
/-! PROOF. The Scanner: the start of a SCAN, a step of a running one, the session it restores, and the sweep as R222's loop
(45_scanner.md R222 to R226). -/

namespace Sys2Proof.Machine

/-! The start of a SCAN (R222, R224) -/

theorem exec_scan_of_closed {s : State} (hs : s.sess = .closed) : exec .scan s = .next (complete .notOpen s) :=
  if_pos ((opened_eq_false s).mpr hs)

theorem exec_scan_of_cancel {s : State} (hs : s.sess = .idle) (hc : s.cancel = true) :
    exec .scan s = .next (scanFinish .cancelled (scanBegin s)) := by
  simp [exec, execScan, hs, hc]

theorem exec_scan_of_idle {s : State} (hs : s.sess = .idle) (hc : s.cancel = false) :
    exec .scan s = .next (scanBegin s) := by
  simp [exec, execScan, hs, hc]

/-- Settles O46: the three outcomes of SCAN, by the session and then by CANCEL. -/
theorem scanStartsTheSweep : Obligations.ScanStartsTheSweep :=
  ⟨rfl, fun _ => exec_scan_of_closed, fun _ => exec_scan_of_cancel, fun _ => exec_scan_of_idle⟩

/-! A step of a running SCAN (R222, R224 to R226) -/

theorem afterEvent_of_nil {s : State} (h : s.host = []) : afterEvent s = s := by rw [afterEvent, h, List.tail_nil, ← h]

/-- A step in which the Host leaves the block alone. -/
theorem step_of_alone {s : State} {rest : List HostEvent} (h : (s.host = [] ∧ rest = []) ∨ s.host = .pause :: rest) :
    step s = .next (if s.busy then scanAdvance { s with host := rest } else { s with host := rest }) := by
  obtain ⟨hh, rfl⟩ | hh := h
  · rw [step_alone s (.inl hh), afterEvent, hh, List.tail_nil]
  · rw [step_alone s (.inr ⟨rest, hh⟩), afterEvent_eq s _ rest hh]

theorem step_scanning {s : State} (hb : s.busy = true) (hh : s.host = []) : step s = .next (scanAdvance s) := by
  rw [step_alone s (.inl hh), if_pos hb, afterEvent_of_nil hh]

theorem scanRecord_nil (line : SerLine) (s : State) :
    scanRecord [] line s = { s with ser := line, scanpos := s.scanpos + 1#10 } := by
  rw [scanRecord, List.append_nil, List.length_nil]
  exact congrArg (fun n => { s with ser := line, devn := n, scanpos := s.scanpos + 1#10 }) (BitVec.add_zero s.devn)

theorem scanProbe_of_no_response {s : State} (h : (probePoll s).response = none) :
    scanProbe s = scanRecord [] (probePoll s).line (probeTarget s) := by
  obtain ⟨-, hp⟩ | ⟨hr, -⟩ := scanProbe_cases s
  · exact hp
  · exact absurd h hr

theorem scanProbe_of_response {s : State} (h : (probePoll s).response ≠ none) :
    scanProbe s = scanRecord
      [{ address := scanAddress s.scanpos.toNat, mode := scanMode s.scanpos.toNat
         name := deviceName (probeName s).response }] (probeName s).line (probeTarget s) := by
  obtain ⟨hr, -⟩ | ⟨-, -, hp⟩ := scanProbe_cases s
  · exact absurd hr h
  · exact hp

/-- A probe is one round of R222's loop, and appends to DEVTAB what that round appends: at most the device it probed. -/
theorem scanProbe_eq_scanRecord (s : State) : ∃ (found : List Device) (line : SerLine),
    scanProbe s = scanRecord found line (probeTarget s) ∧
    (found = [] ∨ found.map (fun d => (d.address, d.mode)) = [(scanAddress s.scanpos.toNat, scanMode s.scanpos.toNat)]) ∧
    ∀ devices, sweepProbe s.stmo { line := s.ser, found := devices }
      (scanAddress s.scanpos.toNat, scanMode s.scanpos.toNat) = { line := line, found := devices ++ found } := by
  obtain ⟨hr, hp⟩ | ⟨hr, -, hp⟩ := scanProbe_cases s
  · refine ⟨[], _, hp, .inl rfl, fun devices => ?_⟩
    simp only [sweepProbe]
    split
    · rw [List.append_nil]; rfl
    · next r h => cases hr.symm.trans h
  · refine ⟨_, _, hp, .inr rfl, fun devices => ?_⟩
    simp only [sweepProbe]
    split
    · next h => exact absurd h hr
    · rfl

theorem scanAdvance_of_end {s : State} (h : 510 ≤ s.scanpos.toNat ∨ s.cancel = true) :
    scanAdvance s = scanFinish (if 510 ≤ s.scanpos.toNat then .ok else .cancelled) s := by
  unfold scanAdvance devCap
  by_cases hp : 510 ≤ s.scanpos.toNat
  · rw [if_pos hp, if_pos hp]
  · rw [if_neg hp, if_neg hp, if_pos (h.resolve_left hp)]

theorem scanAdvance_of_probe {s : State} (hp : s.scanpos.toNat < 510) (hc : s.cancel = false) :
    scanAdvance s = scanProbe s := by
  unfold scanAdvance devCap
  rw [if_neg (Nat.not_le_of_lt hp), if_neg (Bool.eq_false_iff.mp hc)]

theorem code_eq_ite (m : IntegrityMode) : m.code = if m = .crc16 then 1#2 else 2#2 := by cases m <;> rfl

/-- Settles O47: the two cases of `scanAdvance`, and the two of the probe it makes. -/
theorem scanStepProbesOrEnds : Obligations.ScanStepProbesOrEnds := by
  intro s rest halone
  refine ⟨fun hb => ?_, fun hb hend => ?_, fun hb hp hc a m x y ha hm hx hy => ?_⟩
  · rw [step_of_alone halone, if_neg (Bool.eq_false_iff.mp hb)]
  · rw [step_of_alone halone, if_pos hb, scanAdvance_of_end (s := { s with host := rest }) hend]
    rfl
  · subst ha hm hx hy
    rw [step_of_alone halone, if_pos hb, scanAdvance_of_probe (s := { s with host := rest }) hp hc, ← code_eq_ite]
    refine ⟨fun hnone => ?_, fun hsome => ⟨deviceName (probeName s).response, ?_, congrArg deviceName,
      fun r => congrArg deviceName⟩⟩
    · rw [scanProbe_of_no_response (s := { s with host := rest }) hnone, scanRecord_nil]
      rfl
    · rw [scanProbe_of_response (s := { s with host := rest }) hsome]
      rfl

/-! What a step of a running SCAN keeps -/

/-- The session a running SCAN saved stays as it was saved (R223). -/
theorem scanAdvance_saved (s : State) : (scanAdvance s).saveAddr = s.saveAddr ∧ (scanAdvance s).saveMode = s.saveMode ∧
    (scanAdvance s).saveTmo = s.saveTmo := by
  obtain ⟨-, ht⟩ | ⟨-, -, ht⟩ | ⟨-, -, ht⟩ := scanAdvance_cases s
  · rw [ht]; exact ⟨rfl, rfl, rfl⟩
  · rw [ht]; exact ⟨rfl, rfl, rfl⟩
  · obtain ⟨found, line, hp, -⟩ := scanProbe_eq_scanRecord s
    rw [ht, hp]; exact ⟨rfl, rfl, rfl⟩

/-- Settles O53: the frame of `scanAdvance`, which writes none of the SAVE registers and not SESS. -/
theorem scanStepsWriteOnlyScanOutputs : Obligations.ScanStepsWriteOnlyScanOutputs := by
  intro s t hb hh hstep
  cases (step_scanning hb hh).symm.trans hstep
  obtain ⟨haddr, hmode, htmo⟩ := scanAdvance_saved s
  exact ⟨scanAdvance_writesOnly s, haddr, hmode, htmo, scanAdvance_sess s⟩

/-! DEVTAB is in probe order (R226) -/

theorem toNat_scanpos_succ {p : BitVec 10} (hp : p.toNat < 510) : (p + 1#10).toNat = p.toNat + 1 := by
  rw [BitVec.toNat_add, BitVec.toNat_ofNat]
  omega

theorem probeOrder_of_empty {s : State} (h : s.devtab = []) : ProbeOrder s := by
  rw [ProbeOrder, h]
  exact List.nil_sublist _

theorem ProbeOrder.of_same {s t : State} (h : ProbeOrder s) (hd : t.devtab = s.devtab) (hp : t.scanpos = s.scanpos) :
    ProbeOrder t := by
  rw [ProbeOrder, hd, hp]
  exact h

theorem ProbeOrder.scanProbe {s : State} (h : ProbeOrder s) (hp : s.scanpos.toNat < 510) : ProbeOrder (scanProbe s) := by
  obtain ⟨found, line, ht, hfound, -⟩ := scanProbe_eq_scanRecord s
  have hlast : (found.map fun d => (d.address, d.mode)).Sublist [(scanAddress s.scanpos.toNat, scanMode s.scanpos.toNat)] := by
    obtain rfl | hfound := hfound
    · exact List.nil_sublist _
    · rw [hfound]
  have htake : scanSeq.take (s.scanpos + 1#10).toNat =
      scanSeq.take s.scanpos.toNat ++ [(scanAddress s.scanpos.toNat, scanMode s.scanpos.toNat)] := by
    rw [toNat_scanpos_succ hp, List.take_add_one, getElem?_scanSeq hp]
    rfl
  rw [ht, ProbeOrder, scanRecord_devtab, scanRecord_scanpos, List.map_append]
  exact htake ▸ List.Sublist.append h hlast

theorem ProbeOrder.scanAdvance {s : State} (h : ProbeOrder s) : ProbeOrder (scanAdvance s) := by
  obtain ⟨-, ht⟩ | ⟨-, -, ht⟩ | ⟨hp, -, ht⟩ := scanAdvance_cases s <;> rw [ht]
  · exact h
  · exact h
  · exact h.scanProbe hp

/-- SCAN empties DEVTAB, and no other command writes DEVTAB or SCANPOS. -/
theorem ProbeOrder.exec {s t : State} (h : ProbeOrder s) {i : Instr} (hx : exec i s = .next t) : ProbeOrder t := by
  by_cases hi : i = .scan
  · subst hi
    obtain ⟨-, ht⟩ | ⟨-, -, ht⟩ | ⟨-, -, ht⟩ := execScan_cases s <;> cases ht.symm.trans hx
    · exact h
    · exact probeOrder_of_empty rfl
    · exact probeOrder_of_empty rfl
  · have hframe : Field.devtab ∉ commandWrites i ∧ Field.scanpos ∉ commandWrites i := by
      cases i <;> simp_all [commandWrites]
    exact h.of_same (commandsWriteOnlyTheirOutputs i s t .devtab hx hframe.1).symm
      (commandsWriteOnlyTheirOutputs i s t .scanpos hx hframe.2).symm

theorem ProbeOrder.accept {s t : State} (h : ProbeOrder s) {w : Word} (hx : accept w s = .next t) : ProbeOrder t := by
  have hbusy : ProbeOrder { s with busy := true } := h
  obtain ⟨i, -, ht⟩ | ⟨e, -, ht⟩ := accept_cases w s
  · exact hbusy.exec (ht.symm.trans hx)
  · cases ht.symm.trans hx
    exact h

theorem ProbeOrder.writeLocation {s : State} (h : ProbeOrder s) (v : Word) (l : Location) :
    ProbeOrder (writeLocation v s l) := by
  cases l
  case reg r => cases r <;> exact h
  all_goals exact h

/-- Settles O51: of all a step can do, only a probe adds to DEVTAB, and it adds its own address and mode. -/
theorem deviceTableKeepsProbeOrder : Obligations.DeviceTableKeepsProbeOrder := by
  refine ⟨probeOrder_of_empty rfl, fun s t hs hstep => ?_⟩
  have h : ProbeOrder (afterEvent s) := hs
  obtain ⟨-, rfl⟩ | ⟨-, -, rfl⟩ | ⟨a, rest, -, rfl⟩ | ⟨-, ⟨c, rfl⟩ | rfl, -⟩ | ⟨-, a, v, rest, -, -, hx⟩ |
      ⟨-, a, v, rest, -, -, rfl⟩ | ⟨rest, -, rfl⟩ | ⟨w, cut, rest, u, -, -, rfl⟩ := step_cases s t hstep
  · exact h
  · exact h.scanAdvance
  · exact h
  · exact h
  · exact h
  · exact h.accept hx
  · exact h.writeLocation v _
  · exact probeOrder_of_empty rfl
  · exact probeOrder_of_empty rfl

/-! The session after a SCAN (R223) -/

/-- What holds from a SCAN's start in `s` to its end: the session is open, saved while the sweep goes on and restored at its end,
and no reset is to come. -/
structure SessionKept (s u : State) : Prop where
  sess : u.sess = .idle
  running : ∀ e ∈ u.host, e.keepsRunning = true
  saved : u.busy = true → u.saveAddr = s.saddr ∧ u.saveMode = s.smode ∧ u.saveTmo = s.stmo
  restored : u.busy = false → u.saddr = s.saddr ∧ u.smode = s.smode ∧ u.stmo = s.stmo

theorem sessionKept_of_scan {s t : State} (hs : s.sess = .idle) (hh : ∀ e ∈ s.host, e.keepsRunning = true)
    (hx : exec .scan s = .next t) : SessionKept s t := by
  cases hc : s.cancel with
  | true =>
    cases (exec_scan_of_cancel hs hc).symm.trans hx
    exact { sess := hs, running := hh, saved := nofun, restored := fun _ => ⟨rfl, rfl, rfl⟩ }
  | false =>
    cases (exec_scan_of_idle hs hc).symm.trans hx
    exact { sess := hs, running := hh, saved := fun _ => ⟨rfl, rfl, rfl⟩, restored := nofun }

theorem SessionKept.scanFinish {s u : State} (h : SessionKept s u) (hb : u.busy = true) (rc : ResultCode) :
    SessionKept s (scanFinish rc u) where
  sess := h.sess
  running := h.running
  saved := nofun
  restored := fun _ => h.saved hb

theorem SessionKept.scanRecord {s u : State} (h : SessionKept s u) (hb : u.busy = true) (found : List Device)
    (line : SerLine) : SessionKept s (scanRecord found line (probeTarget u)) where
  sess := h.sess
  running := h.running
  saved := h.saved
  restored := fun hidle => by cases hb.symm.trans hidle

theorem SessionKept.scanAdvance {s u : State} (h : SessionKept s u) (hb : u.busy = true) :
    SessionKept s (scanAdvance u) := by
  obtain ⟨-, ht⟩ | ⟨-, -, ht⟩ | ⟨-, -, ht⟩ := scanAdvance_cases u
  · rw [ht]; exact h.scanFinish hb _
  · rw [ht]; exact h.scanFinish hb _
  · obtain ⟨found, line, hp, -⟩ := scanProbe_eq_scanRecord u
    rw [ht, hp]; exact h.scanRecord hb found line

/-- Of what the Host may do while BUSY = 1 only a reset ends the sweep, and none is to come. -/
theorem SessionKept.step {s u t : State} (h : SessionKept s u) (hb : u.busy = true) (hstep : step u = .next t) :
    SessionKept s t := by
  have hu : SessionKept s (afterEvent u) := { h with running := fun e he => h.running e (List.mem_of_mem_tail he) }
  obtain ⟨hidle, -⟩ | ⟨-, -, rfl⟩ | ⟨a, rest, -, rfl⟩ | ⟨-, ⟨c, rfl⟩ | rfl, -⟩ | ⟨hidle, -⟩ | ⟨hidle, -⟩ |
      ⟨rest, hh, -⟩ | ⟨w, cut, rest, u', hh, -⟩ := step_cases u t hstep
  · cases hb.symm.trans hidle
  · exact hu.scanAdvance hb
  · exact { hu with }
  · exact { hu with }
  · exact hu
  · cases hb.symm.trans hidle
  · cases hb.symm.trans hidle
  · cases h.running .reset (hh ▸ List.mem_cons_self)
  · cases h.running (.resetDuring w cut) (hh ▸ List.mem_cons_self)

theorem SessionKept.run {s : State} (n : Nat) {u t : State} (h : SessionKept s u)
    (hbusy : ∀ k, k < n → ∀ v : State, Host.Core.run Sys2Proof.core k u = .next v → v.busy = true)
    (hrun : Host.Core.run Sys2Proof.core n u = .next t) : SessionKept s t := by
  induction n generalizing u with
  | zero => cases hrun; exact h
  | succ n ih =>
    obtain ⟨v, hv⟩ := everyStepAnswersNext u
    refine ih (h.step (hbusy 0 n.succ_pos u rfl) hv) (fun k hk x hx => ?_) ((run_succ n u v hv).symm.trans hrun)
    exact hbusy (k + 1) (Nat.succ_lt_succ hk) x ((run_succ k u v hv).trans hx)

/-- Settles O48: `SessionKept` holds once SCAN has started and at each step until BUSY is 0. -/
theorem scanRestoresTheSession : Obligations.ScanRestoresTheSession := by
  intro s s0 t n hs hx hh hbusy hrun hidle
  have h := (sessionKept_of_scan hs hh hx).run n hbusy hrun
  obtain ⟨haddr, hmode, htmo⟩ := h.restored hidle
  exact ⟨haddr, hmode, htmo, h.sess⟩

/-! The end of a SCAN left alone (R222) -/

theorem toNat_scanpos_scanProbe {s : State} (hp : s.scanpos.toNat < 510) :
    (scanProbe s).scanpos.toNat = s.scanpos.toNat + 1 := by
  obtain ⟨found, line, ht, -⟩ := scanProbe_eq_scanRecord s
  rw [ht]
  exact toNat_scanpos_succ hp

/-- A probe leaves the sweep under way and undisturbed. -/
theorem scanProbe_keeps (s : State) : (scanProbe s).busy = s.busy ∧ (scanProbe s).host = s.host ∧
    (scanProbe s).cancel = s.cancel := by
  obtain ⟨found, line, ht, -⟩ := scanProbe_eq_scanRecord s
  rw [ht]
  exact ⟨rfl, rfl, rfl⟩

theorem run_scanning (k : Nat) {s : State} (hb : s.busy = true) (hh : s.host = []) :
    Host.Core.run Sys2Proof.core (k + 1) s = Host.Core.run Sys2Proof.core k (scanAdvance s) :=
  run_succ k s _ (step_scanning hb hh)

/-- At its end, and by a CANCEL, a sweep completes in one step. -/
theorem scan_ends_at_once {s : State} (hb : s.busy = true) (hh : s.host = [])
    (hend : 510 ≤ s.scanpos.toNat ∨ s.cancel = true) :
    ∃ t, Host.Core.run Sys2Proof.core 1 s = .next t ∧ t.busy = false ∧ (t.rc = .ok ∨ t.rc = .cancelled) := by
  refine ⟨_, run_scanning 0 hb hh, ?_⟩
  rw [scanAdvance_of_end hend]
  refine ⟨rfl, ?_⟩
  by_cases hp : 510 ≤ s.scanpos.toNat
  · exact .inl (if_pos hp)
  · exact .inr (if_neg hp)

/-- With `k` probes to go a sweep ends in at most `k + 1` steps. -/
theorem scan_ends (k : Nat) {s : State} (hb : s.busy = true) (hh : s.host = []) (hk : 510 ≤ s.scanpos.toNat + k) :
    ∃ (n : Nat) (t : State), n ≤ k + 1 ∧ Host.Core.run Sys2Proof.core n s = .next t ∧ t.busy = false ∧
      (t.rc = .ok ∨ t.rc = .cancelled) := by
  induction k generalizing s with
  | zero => exact ⟨1, (scan_ends_at_once hb hh (.inl hk)).imp fun _ ht => ⟨le_rfl, ht⟩⟩
  | succ k ih =>
    by_cases hend : 510 ≤ s.scanpos.toNat ∨ s.cancel = true
    · exact ⟨1, (scan_ends_at_once hb hh hend).imp fun _ ht => ⟨Nat.succ_le_succ (Nat.zero_le _), ht⟩⟩
    · obtain ⟨hp, hc⟩ := not_or.mp hend
      obtain ⟨hbusy, hhost, -⟩ := scanProbe_keeps s
      have hpos := toNat_scanpos_scanProbe (Nat.lt_of_not_le hp)
      obtain ⟨n, t, hn, hrun, ht⟩ := ih (hbusy.trans hb) (hhost.trans hh) (by omega)
      refine ⟨n + 1, t, Nat.succ_le_succ hn, ?_, ht⟩
      rw [run_scanning n hb hh, scanAdvance_of_probe (Nat.lt_of_not_le hp) (Bool.eq_false_iff.mpr hc), hrun]

/-- Settles O49: at most 510 probes are to go. -/
theorem scanEndsWithin511Steps : Obligations.ScanEndsWithin511Steps :=
  fun s hb hh => scan_ends 510 hb hh (Nat.le_add_left 510 s.scanpos.toNat)

/-! The sweep as R222's loop -/

/-- What R222's loop carries at its end, from probe SCANPOS of a running sweep on. -/
def sweepFrom (s : State) : Sweep :=
  (scanSeq.drop s.scanpos.toNat).foldl (sweepProbe s.stmo) { line := s.ser, found := s.devtab }

/-- The state a sweep ends with when the loop has carried `x` through all probes. -/
def finishSweep (x : Sweep) (s : State) : State :=
  scanFinish .ok { s with
    ser := x.line, devtab := x.found, devn := BitVec.ofNat 10 x.found.length, scanpos := 510#10 }

theorem drop_scanSeq {j : Nat} (hj : j < 510) :
    scanSeq.drop j = (scanAddress j, scanMode j) :: scanSeq.drop (j + 1) := by
  rw [List.drop_eq_getElem?_toList_append, getElem?_scanSeq hj]
  rfl

theorem sweepFrom_scanProbe {s : State} (hp : s.scanpos.toNat < 510) : sweepFrom (scanProbe s) = sweepFrom s := by
  obtain ⟨found, line, ht, -, hround⟩ := scanProbe_eq_scanRecord s
  rw [sweepFrom, sweepFrom, drop_scanSeq hp, List.foldl_cons, hround, toNat_scanpos_scanProbe hp, ht]
  rfl

/-- A probe writes nothing that the end of the sweep does not write again. -/
theorem finishSweep_scanProbe (x : Sweep) (s : State) : finishSweep x (scanProbe s) = finishSweep x s := by
  obtain ⟨found, line, ht, -⟩ := scanProbe_eq_scanRecord s
  rw [ht]
  rfl

theorem scanProbe_devn {s : State} (h : s.devn = BitVec.ofNat 10 s.devtab.length) :
    (scanProbe s).devn = BitVec.ofNat 10 (scanProbe s).devtab.length := by
  obtain ⟨found, line, ht, -⟩ := scanProbe_eq_scanRecord s
  rw [ht, scanRecord_devn, scanRecord_devtab, List.length_append, BitVec.ofNat_add]
  exact congrArg (· + BitVec.ofNat 10 found.length) h

theorem finishSweep_of_end {s : State} (hdevn : s.devn = BitVec.ofNat 10 s.devtab.length) (hp : s.scanpos.toNat = 510) :
    finishSweep (sweepFrom s) s = scanFinish .ok s := by
  have hpos : s.scanpos = 510#10 := BitVec.eq_of_toNat_eq hp
  have hdone : sweepFrom s = { line := s.ser, found := s.devtab } := by
    rw [sweepFrom, hp, List.drop_of_length_le length_scanSeq.le, List.foldl_nil]
  rw [finishSweep, hdone, ← hdevn, ← hpos]

/-- With `k` probes to go the sweep takes `k` steps and one, and ends as the loop does. -/
theorem run_sweep (k : Nat) {s : State} (hb : s.busy = true) (hh : s.host = []) (hc : s.cancel = false)
    (hdevn : s.devn = BitVec.ofNat 10 s.devtab.length) (hk : s.scanpos.toNat + k = 510) :
    Host.Core.run Sys2Proof.core (k + 1) s = .next (finishSweep (sweepFrom s) s) := by
  induction k generalizing s with
  | zero =>
    have hend : 510 ≤ s.scanpos.toNat := hk.ge
    rw [run_scanning 0 hb hh, scanAdvance_of_end (.inl hend), if_pos hend, finishSweep_of_end hdevn hk]
    rfl
  | succ k ih =>
    have hp : s.scanpos.toNat < 510 := by omega
    obtain ⟨hbusy, hhost, hcancel⟩ := scanProbe_keeps s
    have hpos := toNat_scanpos_scanProbe hp
    rw [run_scanning _ hb hh, scanAdvance_of_probe hp hc,
      ih (hbusy.trans hb) (hhost.trans hh) (hcancel.trans hc) (scanProbe_devn hdevn) (by omega),
      sweepFrom_scanProbe hp, finishSweep_scanProbe]

theorem sweepFrom_scanBegin (s : State) : sweepFrom (scanBegin s) = sweepAll s.scantmo s.ser := by
  rw [sweepFrom, scanBegin_scanpos, BitVec.toNat_zero, List.drop_zero]
  rfl

/-- The whole state after a sweep from its start on. -/
theorem finishSweep_scanBegin (x : Sweep) (s : State) : finishSweep x (scanBegin s) = { s with
    ser := x.line, devtab := x.found, devn := BitVec.ofNat 10 x.found.length, scanpos := 510#10
    saveAddr := s.saddr, saveMode := s.smode, saveTmo := s.stmo
    cancel := false, raddr := 0#8, rhdr := 0#8, obuf := [], olen := 0#9, ecnt := 0#9, v := false, w := false
    rc := .ok, busy := false } := rfl

theorem run_scanBegin {s : State} (hh : s.host = []) (hc : s.cancel = false) :
    Host.Core.run Sys2Proof.core 511 (scanBegin s) = .next (finishSweep (sweepAll s.scantmo s.ser) (scanBegin s)) :=
  sweepFrom_scanBegin s ▸ run_sweep 510 rfl hh hc rfl rfl

/-- Settles O50: the CMD write starts the sweep with 510 probes to go, and `run_sweep` takes it to its end. -/
theorem undisturbedScanIsTheSweepLoop : Obligations.UndisturbedScanIsTheSweepLoop := by
  intro s hs hb hc hh
  have hstart : step s = .next (scanBegin { s with host := [], busy := true }) := by
    rw [acceptedWordRunsItsCommand s 0x0050#16 .scan [] hh hb (decode_encode .scan)]
    exact exec_scan_of_idle (s := { s with host := [], busy := true }) hs hc
  rw [run_succ 511 s _ hstart, run_scanBegin (s := { s with host := [], busy := true }) rfl hc, finishSweep_scanBegin, hb]

end Sys2Proof.Machine
end

section
/-! PROOF. How a command completes: with a code R240 gives it, and unchanged but for RC where it is refused (60_exceptions.md R240,
R247). -/

namespace Sys2Proof.Machine

/-- The codes of a refusal, raised by a test made before the command does anything (R247, R250). -/
def refusalCodes : List ResultCode := [.notOpen, .lengthError, .notEvent, .configError]

/-- The ways a command completes: it ran from `s` to its end, was refused in `s`, or is an OPEN that failed (R161, R247). -/
inductive Completion (i : Instr) (s : State) : State → Prop where
  | ran {rc : ResultCode} {u : State} (hcode : rc ∈ commandCodes i) (hran : rc ∉ refusalCodes) : Completion i s (complete rc u)
  | refused {rc : ResultCode} (hcode : rc ∈ commandCodes i) (hi : i ≠ .openCmd) : Completion i s (complete rc s)
  | closed (hi : i = .openCmd) : Completion i s (complete .configError { s with sess := .closed })

/-- "OK by every command" (R240). -/
theorem ok_mem_commandCodes (i : Instr) : .ok ∈ commandCodes i := by cases i <;> exact List.mem_cons_self

theorem Completion.ok {i : Instr} {s u : State} : Completion i s (complete .ok u) := .ran (ok_mem_commandCodes i) (by decide)

theorem Completion.verdict {i : Instr} {s u : State} (hi : .integrityMismatch ∈ commandCodes i) (valid : Bool) :
    Completion i s (complete (verdictCode valid) u) := by
  cases valid
  · exact .ran hi (by decide)
  · exact .ok

theorem Completion.unsealed {s u : State} (f : Unsealed) : Completion .unsealCmd s (complete f.code u) := by
  rw [Unsealed.code]
  split
  · exact .ran (by decide) (by decide)
  · exact .verdict (by decide) _

theorem Completion.decodeEvents {i : Instr} (hcode : .lengthError ∈ commandCodes i) (hi : i ≠ .openCmd) (kind : EventKind)
    (classify : Byte → Byte → Category × Route) (src : Source) (s : State) :
    Completion i s (decodeEvents kind classify src s) := by
  obtain ⟨-, -, ht⟩ | ⟨-, ht⟩ := decodeEvents_cases kind classify src s <;> rw [ht]
  · exact .refused hcode hi
  · exact .ok

/-- What a completing command can do, said once; a SCAN under way has not completed. -/
theorem exec_completion {i : Instr} {s t : State} (hx : exec i s = .next t) (hb : t.busy = false) : Completion i s t := by
  cases i with
  | crcgen =>
    obtain ⟨-, ht⟩ | ⟨-, ht⟩ := execCrcgen_cases s <;> cases ht.symm.trans hx
    · exact .refused (by decide) (by decide)
    · exact .ok
  | crcchk =>
    obtain ⟨-, ht⟩ | ⟨-, ht⟩ := execCrcchk_cases s <;> cases ht.symm.trans hx
    · exact .refused (by decide) (by decide)
    · exact .verdict (by decide) _
  | sumgen =>
    obtain ⟨-, ht⟩ | ⟨-, ht⟩ := execSumgen_cases s <;> cases ht.symm.trans hx
    · exact .refused (by decide) (by decide)
    · exact .ok
  | sumchk =>
    obtain ⟨-, ht⟩ | ⟨-, ht⟩ := execSumchk_cases s <;> cases ht.symm.trans hx
    · exact .refused (by decide) (by decide)
    · exact .verdict (by decide) _
  | sealCmd =>
    obtain ⟨-, ht⟩ | ⟨m, -, ⟨-, ht⟩ | ⟨-, ht⟩⟩ := execSeal_cases s <;> cases ht.symm.trans hx
    · exact .refused (by decide) (by decide)
    · exact .refused (by decide) (by decide)
    · exact .ok
  | unsealCmd =>
    obtain ⟨-, ht⟩ | ⟨m, -, ⟨-, ht⟩ | ⟨-, ht⟩⟩ := execUnseal_cases s <;> cases ht.symm.trans hx
    · exact .refused (by decide) (by decide)
    · exact .refused (by decide) (by decide)
    · exact .unsealed _
  | openCmd =>
    obtain ⟨-, ht⟩ | ⟨-, -, ht⟩ := execOpen_cases s <;> cases ht.symm.trans hx
    · exact .closed rfl
    · exact .ok
  | xchg =>
    obtain ⟨-, ht⟩ | ⟨-, -, ht⟩ | ⟨-, -, ⟨-, ht⟩ | ⟨r, -, ht⟩⟩ := execXchg_cases s <;> cases ht.symm.trans hx
    · exact .refused (by decide) (by decide)
    · exact .refused (by decide) (by decide)
    · exact .ran (by decide) (by decide)
    · exact .verdict (by decide) _
  | decbill src => cases hx; exact .decodeEvents (by simp [commandCodes]) (by simp) _ _ src s
  | deccoin src => cases hx; exact .decodeEvents (by simp [commandCodes]) (by simp) _ _ src s
  | decode src =>
    obtain ⟨-, ht⟩ | ⟨-, ht⟩ | ⟨-, -, ht⟩ := execDecode_cases src s <;> cases ht.symm.trans hx
    · exact .decodeEvents (by simp [commandCodes]) (by simp) _ _ src s
    · exact .decodeEvents (by simp [commandCodes]) (by simp) _ _ src s
    · exact .refused (by simp [commandCodes]) nofun
  | scan =>
    obtain ⟨-, ht⟩ | ⟨-, -, ht⟩ | ⟨-, -, ht⟩ := execScan_cases s <;> cases ht.symm.trans hx
    · exact .refused (by decide) (by decide)
    · exact .ran (by decide) (by decide)
    · cases hb

/-- Settles O55: each way to complete carries a code of the command. -/
theorem commandsCompleteWithTheirCodes : Obligations.CommandsCompleteWithTheirCodes := by
  intro i s t hx hb
  cases exec_completion hx hb with
  | ran hcode _ => exact hcode
  | refused hcode _ => exact hcode
  | closed hi => simp [hi, commandCodes]

/-- Settles O54: a command that ran has no refusal's code, and CONFIG_ERROR is the only one of an OPEN. -/
theorem refusedCommandsChangeOnlyRc : Obligations.RefusedCommandsChangeOnlyRc := by
  intro i s t hx hb
  cases exec_completion hx hb with
  | ran _ hran =>
    simp only [refusalCodes, List.mem_cons, List.not_mem_nil, or_false, not_or] at hran
    obtain ⟨hopen, hlen, hevent, hconfig⟩ := hran
    simp [hopen, hlen, hevent, hconfig]
  | refused _ hi => exact ⟨fun _ => rfl, fun _ h => absurd h hi⟩
  | closed hi => simp [hi, complete]

end Sys2Proof.Machine
end

section
/-! PROOF. Reset and hazards: a reset between steps, a reset in the middle of the block's work, and the weak spot of the CRC
(70_reset_and_hazards.md R270, R287). -/

namespace Sys2Proof.Machine

/-! Work only adds to the SER transactions made (R177) -/

/-- XCHG is the one command whose own step uses the SER port; SCAN leaves it to the steps that follow. -/
theorem exec_trace_prefix {i : Instr} {s t : State} (hx : exec i s = .next t) : s.ser.trace <+: t.ser.trace := by
  cases i with
  | xchg =>
    obtain ⟨-, ht⟩ | ⟨-, -, ht⟩ | ⟨-, -, ⟨-, ht⟩ | ⟨r, -, ht⟩⟩ := execXchg_cases s <;> cases ht.symm.trans hx
    · exact List.prefix_rfl
    · exact List.prefix_rfl
    · exact exchange_trace_prefix ..
    · exact exchange_trace_prefix ..
  | scan =>
    obtain ⟨-, ht⟩ | ⟨-, -, ht⟩ | ⟨-, -, ht⟩ := execScan_cases s <;> cases ht.symm.trans hx <;> exact List.prefix_rfl
  | _ =>
    have hser : s.ser = t.ser := commandsWriteOnlyTheirOutputs _ s t .ser hx (by simp [commandWrites])
    rw [hser]

theorem accept_trace_prefix {w : Word} {s t : State} (hx : accept w s = .next t) : s.ser.trace <+: t.ser.trace := by
  obtain ⟨i, -, ht⟩ | ⟨e, -, ht⟩ := accept_cases w s
  · exact exec_trace_prefix (ht.symm.trans hx)
  · cases ht.symm.trans hx
    exact List.prefix_rfl

/-- A probe makes one exchange, or two with the second on the line the first one left. -/
theorem scanProbe_trace_prefix (s : State) : s.ser.trace <+: (scanProbe s).ser.trace := by
  have hpoll : s.ser.trace <+: (probePoll s).line.trace := exchange_trace_prefix ..
  have hname : (probePoll s).line.trace <+: (probeName s).line.trace := exchange_trace_prefix ..
  obtain ⟨-, hp⟩ | ⟨-, -, hp⟩ := scanProbe_cases s <;> rw [hp, scanRecord_ser]
  · exact hpoll
  · exact hpoll.trans hname

theorem scanAdvance_trace_prefix (s : State) : s.ser.trace <+: (scanAdvance s).ser.trace := by
  obtain ⟨-, ht⟩ | ⟨-, -, ht⟩ | ⟨-, -, ht⟩ := scanAdvance_cases s <;> rw [ht]
  · exact List.prefix_rfl
  · exact List.prefix_rfl
  · exact scanProbe_trace_prefix s

/-! Reset (R270, U12) -/

/-- Settles O17: what a reset keeps is exactly the outside world's part of the state. -/
theorem resetLeavesTheSerialSide : Obligations.ResetLeavesTheSerialSide := by
  intro s rest h
  rw [step_reset s rest h, afterEvent_eq s _ rest h, resetBlock]

/-- Each read among the transactions made has taken one answer. -/
theorem abandon_answers (s u : State) (cut : Nat) :
    (abandon s u cut).ser.answers =
      s.ser.answers.drop (readCount ((abandon s u cut).ser.trace.drop s.ser.trace.length)) := by
  simp only [abandon, resetBlock_ser, List.drop_left]

/-- Where the abandoned work only adds to the trace, what it leaves there is the first `cut` of the transactions it adds. -/
theorem abandon_trace {s u : State} (h : s.ser.trace <+: u.ser.trace) (cut : Nat) :
    s.ser.trace <+: (abandon s u cut).ser.trace ∧ (abandon s u cut).ser.trace <+: u.ser.trace ∧
      (abandon s u cut).ser.trace.length = min (s.ser.trace.length + cut) u.ser.trace.length := by
  obtain ⟨ops, hops⟩ := h
  have hmade : (abandon s u cut).ser.trace = s.ser.trace ++ ops.take cut := by
    simp only [abandon, resetBlock_ser, ← hops, List.drop_left]
  rw [hmade, ← hops, List.prefix_append_right_inj, List.length_append, List.length_append, List.length_take,
    Nat.add_min_add_left]
  exact ⟨List.prefix_append _ _, List.take_prefix cut ops, rfl⟩

/-- Settles O18: the work abandoned is a step of a running SCAN or the command just written, and either only adds
transactions. -/
theorem resetAbandonsWorkInFlight : Obligations.ResetAbandonsWorkInFlight := by
  intro s w cut rest h
  obtain ⟨u, hwork, hstep⟩ := step_resetDuring s w cut rest h
  have hprefix : (afterEvent s).ser.trace <+: u.ser.trace := by
    obtain ⟨-, rfl⟩ | ⟨-, hu⟩ := hwork
    · exact scanAdvance_trace_prefix _
    · exact accept_trace_prefix hu
  obtain ⟨hkept, hmade, hlen⟩ := abandon_trace hprefix cut
  rw [afterEvent_eq s _ rest h] at hwork hstep hkept hmade hlen
  refine ⟨_, u, hstep, fun hb => ?_, fun hb => ?_, rfl, hkept, hmade, hlen, abandon_answers _ u cut⟩
  · obtain ⟨-, hu⟩ | ⟨hidle, -⟩ := hwork
    · exact hu
    · cases hb.symm.trans hidle
  · obtain ⟨hbusy, -⟩ | ⟨-, hu⟩ := hwork
    · cases hb.symm.trans hbusy
    · exact hu

/-! The weak spot of the CRC (R287) -/

/-- R122 (c) on zero bytes alone: each is a leading zero of the rest. -/
theorem crc16_replicate_zero (n : Nat) : crc16 (List.replicate n 0#8) = 0#16 := by
  induction n with
  | zero => rfl
  | succ n ih => rw [List.replicate_succ, crcOfSequenceAndItsCrcIsZero.left, ih]

theorem removeAt_replicate {n i : Nat} (hi : i < n) (b : Byte) :
    removeAt (List.replicate n b) i = List.replicate (n - 1) b := by
  rw [removeAt, List.take_replicate, List.drop_replicate, List.replicate_append_replicate]
  congr 1
  omega

/-- Settles O31: both bytes received are 0, and so is the CRC of the zero bytes left. -/
theorem allZeroFramesPassTheCrc : Obligations.AllZeroFramesPassTheCrc := by
  intro n hn
  obtain ⟨m, rfl⟩ := Nat.exists_eq_add_one.mpr (Nat.zero_lt_of_lt hn)
  have hm : 4 ≤ m := Nat.le_of_succ_le_succ hn
  rw [List.replicate_succ', unsealFrame_crc16_concat _ _ (hm.trans_eq List.length_replicate.symm)]
  refine decide_eq_true ?_
  rw [removeAt_replicate (by omega), crc16_replicate_zero, List.getElem_replicate]
  rfl

end Sys2Proof.Machine
end
